-- ==== Sys2Proof/Word.lean ====
section
/-!
DEFINITION. Word.lean: the word types of CORE's ports and registers (00_scope.md R11, R12) and the closed sets of
names the spec uses for channels, modes, sources, timers, units, ADC inputs, polarities, statuses and waits.
-/

namespace Sys2Proof

/-- u16: codepoints, setpoints, limits, compare values (R9, R25, R27, R28). -/
abbrev Codepoint := BitVec 16

/-- u32: operand words, periods, duties, sense gains (R23, R24, R26, R73); also the bits of an s32 gain (R29). -/
abbrev Word := BitVec 32

abbrev Byte := BitVec 8

/-- The two channels (R7). -/
inductive Channel where
  | ch1 | ch2
  deriving DecidableEq, Repr, Inhabited

/-- The operating modes, in the order of R22 and R75. -/
inductive Mode where
  | disabled | constantDuty | currentFeedback | voltageFeedback | maxPower
  deriving DecidableEq, Repr, Inhabited

/-- Channel 2's PWM source (R32, R76). -/
inductive Source where
  | battery | input
  deriving DecidableEq, Repr, Inhabited

/-- The channel variants (R30, R220). -/
inductive Variant where
  | dualSwitch | singleSwitch
  deriving DecidableEq, Repr

/-- Timer identifiers (R10). -/
inductive Timer where
  | ta | tb | tc | tt
  deriving DecidableEq, Repr

/-- Output-compare unit identifiers (R10). -/
inductive OcUnit where
  | ua | ub | ubat | uin
  deriving DecidableEq, Repr

/-- ADC input identifiers (R10). -/
inductive AdcInput where
  | ch1V | ch1I | ch2V | ch2I
  deriving DecidableEq, Repr

/-- PWM polarity (R85, R174). -/
inductive Polarity where
  | risingFirst | fallingFirst
  deriving DecidableEq, Repr, Inhabited

/-- Which limit a setpoint is checked against (R8, R255). -/
inductive LimitSelect where
  | opposing | same
  deriving DecidableEq, Repr

/-- The statuses of a response (R79). -/
inductive Status where
  | ok | rejected | configFault | illegal
  deriving DecidableEq, Repr

/-- The two ready indications, and the waits for them (R86, R205). -/
inductive ReadyWait where
  | osc | adc
  deriving DecidableEq, Repr

/-- Byte order of a transport outside CORE (R53); `big` is the same bytes backwards, DESIGN CHOICE, safe (log 15). -/
inductive ByteOrder where
  | little | big
  deriving DecidableEq, Repr

/-- One word delivered on one of CORE's two input ports (R70, R82). -/
inductive PortWord where
  | command (w : BitVec 96)
  | sample (w : BitVec 64)
  deriving DecidableEq, Repr

end Sys2Proof
end

