-- ==== Sys2Proof/Config.lean ====
section
/-!
DEFINITION. Config.lean: what an implementation of CORE fixes (the construction parameters of 00_scope.md R8) and the
values the spec leaves open, which are opaque constants: nothing in Lean can evaluate them.
-/

namespace Sys2Proof

/-- A pair of proportional gains, each the bits of an s32 16.16 value (R29). -/
structure GainPair where
  g1 : Word
  g2 : Word
  deriving DecidableEq, Repr

/-- The construction parameters of one channel, with the defaults R8 gives. -/
structure ChanConstruction where
  /-- VSENSE_GAIN[c]: at least 1, no default. -/
  vsenseGain : Word
  /-- ISENSE_GAIN[c]: at least 1, no default. -/
  isenseGain : Word
  vGains : GainPair := ⟨0xFFFF#32, 0xFFFF#32⟩
  iGains : GainPair := ⟨0xFFFF#32, 0xFFFF#32⟩
  ilimitInit : Codepoint := 0xFFFF#16
  vlimitInit : Codepoint := 0xFFFF#16
  periodReset : Word := 0#32
  deriving DecidableEq, Repr

/-- PORT_BYTE_ORDER's default, little-endian (R53; I17). -/
def Config.portByteOrder : ByteOrder := .little

/-- All construction parameters of CORE, fixed for the whole run (R8; I17). -/
structure Construction where
  ch1 : ChanConstruction
  ch2 : ChanConstruction
  /-- CH1_PHASE_OFFSET, in timer ticks: no default. -/
  phaseOffset : Word
  /-- CH1_POL_A, CH1_POL_B, CH2_POL: no default. -/
  polA : Polarity
  polB : Polarity
  pol2 : Polarity
  limitSelect : LimitSelect := .opposing
  /-- PORT_BYTE_ORDER: how a transport outside CORE orders the bytes of a port word (R53). -/
  portByteOrder : ByteOrder := Config.portByteOrder
  deriving DecidableEq, Repr

/-- R8: a sense gain of 0 is not a legal configuration. -/
abbrev Construction.Legal (p : Construction) : Prop :=
  (p.ch1.vsenseGain ≠ 0#32 ∧ p.ch1.isenseGain ≠ 0#32) ∧ (p.ch2.vsenseGain ≠ 0#32 ∧ p.ch2.isenseGain ≠ 0#32)

namespace Config

/-- R1. -/
def identity : String := "HexF-solar-charger-CORE-v7"

/-- CH1_PHASE_OFFSET, OPEN in R8. DESIGN CHOICE, safe: a free value (log 8). -/
opaque ch1PhaseOffset : Word

/-- CH1_POL_A, OPEN in R8. DESIGN CHOICE, safe: a free value (log 8). -/
opaque ch1PolA : Polarity

/-- CH1_POL_B, OPEN in R8. DESIGN CHOICE, safe: a free value (log 8). -/
opaque ch1PolB : Polarity

/-- CH2_POL, OPEN in R8. DESIGN CHOICE, safe: a free value (log 8). -/
opaque ch2Pol : Polarity

/-- The acknowledge bit of the n-th CFG_OUTPUT past the ones the environment has settled in State.acks: "a free draw of the
environment" (R86). DESIGN CHOICE, safe: a free value (log 6). -/
opaque cfgOutputAck : Nat → Bool

/-- The construction State.reset stands for. The sense gains are registers whose reset value R8 leaves OPEN: 1241 and 1 are
DESIGN CHOICE, unsafe (log 9). Everything not written here is a default of R8 or a free value. -/
def construction : Construction where
  ch1 := { vsenseGain := 1241#32, isenseGain := 1#32 }
  ch2 := { vsenseGain := 1241#32, isenseGain := 1#32 }
  phaseOffset := ch1PhaseOffset
  polA := ch1PolA
  polB := ch1PolB
  pol2 := ch2Pol

end Config

end Sys2Proof
end

