-- ==== Sys2Proof/Machine/State.lean ====
section
/-!
DEFINITION. Machine/State.lean: every piece of state 10_state.md gives CORE (R20 to R36), its two output sequences
(00_scope.md R6), the inputs waiting for it (30_encoding.md R70, R82, R86), and its reset value (R41). Plain data.
-/

namespace Sys2Proof.Machine

/-- One channel's register set (R21). `source` is channel 2's alone and stands in State (R32). -/
structure Chan where
  /-- R22. -/
  mode : Mode
  /-- R23: in timer ticks. -/
  period : Word
  /-- R24: 16.16, in [0, 0x10000]. -/
  duty1 : Word
  /-- R24: 16.16, in [0, duty1]. -/
  duty2 : Word
  /-- R25. -/
  vsense : Codepoint
  /-- R25. -/
  isense : Codepoint
  /-- R26: constant. -/
  vsenseGain : Word
  /-- R26: constant. -/
  isenseGain : Word
  /-- R27. -/
  vsetpoint : Codepoint
  /-- R27. -/
  isetpoint : Codepoint
  /-- R28: constant. -/
  ilimit : Codepoint
  /-- R28: constant. -/
  vlimit : Codepoint
  /-- R29: constant. -/
  vGains : GainPair
  /-- R29: constant. -/
  iGains : GainPair
  /-- R31. -/
  active : Bool
  deriving DecidableEq, Repr

/-- The fault record (R35). The identifiers are abstract names without a number (R10), so their reset value 0 is written
`none`. DESIGN CHOICE, safe (log 10). -/
structure FaultRecord where
  valid : Bool
  channel : Option Channel
  timer : Option Timer
  unit : Option OcUnit
  ticks : BitVec 49
  deriving DecidableEq, Repr

/-- What a command held at a ready wait still has to do after the rest of RECOMPUTE (R36). -/
inductive Resumption where
  /-- SET_MODE's CONFIGURE(c) and what follows it, towards mode m (R101). -/
  | configure (c : Channel) (m : Mode)
  /-- Nothing but its pending response (st, 0), after DISABLE (R101, R105, R250). -/
  | respond (st : Status)
  deriving DecidableEq, Repr

/-- The continuation of a held command: the indication it waits for, and the rest (R36, R205). -/
structure Held where
  wait : ReadyWait
  rest : Resumption
  deriving DecidableEq, Repr

/-- A response on the response port (R78). -/
structure Response where
  st : Status
  d : Word
  deriving DecidableEq, Repr

/-- The closed set of driver operations (R84). -/
inductive DriverOp where
  | cfgOutput (t : Timer) (u : OcUnit) (period : Word) (pol : Polarity) (ticks : BitVec 16)
  | setCompare (t : Timer) (u : OcUnit) (ticks : BitVec 16)
  | enableOutput (t : Timer) (u : OcUnit)
  | disableOutput (t : Timer) (u : OcUnit)
  | start (t : Timer)
  | stop (t : Timer)
  | setMasterMode (t : Timer)
  | setSlaveTrigger (s m : Timer)
  | primePeriod (t : Timer) (first period : Word)
  | clkOn (t : Timer)
  | clkOff (t : Timer)
  | vdivOn
  | vdivOff
  | adcOscOn
  | adcOscOff
  | adcPowerOn
  | adcPowerOff
  | adcSeq (inputs : List AdcInput)
  | adcScanOn
  | adcIrqOn
  | trigRate (hz : Word)
  | trigStart
  deriving DecidableEq, Repr

/-- What the outside can send CORE: a command (R70), a sample word (R82), a ready indication (R86), reset (R340): between
transactions, or while the transaction of the next input is in progress, once it has emitted `emitted` operations (log 2). -/
inductive Input where
  | command (w : BitVec 96)
  | sample (w : BitVec 64)
  | ready (x : ReadyWait)
  | reset
  | resetDuring (emitted : Nat)
  deriving DecidableEq, Repr

/-- CORE's whole state. -/
structure State where
  /-- The construction parameters, fixed for the whole run (R8). -/
  params : Construction
  /-- Channel 1's register set (R21). -/
  ch1 : Chan
  /-- Channel 2's register set (R21). -/
  ch2 : Chan
  /-- chan[2].source (R32). -/
  source : Source
  /-- core.adc_on (R33). -/
  adcOn : Bool
  /-- core.halted, the HALT output (R34). -/
  halted : Bool
  /-- core.fault (R35). -/
  fault : FaultRecord
  /-- The continuation of a held command (R36). -/
  held : Option Held
  /-- The response port's sequence so far, oldest first (R6, R78). -/
  responses : List Response
  /-- The driver-operation port's sequence so far, oldest first (R6, R57). -/
  driverOps : List DriverOp
  /-- The model's own: inputs that have arrived and are not taken, in the order CORE takes them. DESIGN CHOICE, safe (log 1). -/
  inbox : List Input
  /-- The model's own: acknowledge bits the environment has settled for the next CFG_OUTPUTs (R86). DESIGN CHOICE, safe (log 6). -/
  acks : List Bool
  /-- The model's own: how many acknowledge bits past `acks` were drawn. DESIGN CHOICE, safe (log 6). -/
  ackDraws : Nat
  deriving DecidableEq, Repr

/-- How the machine can stop: not at all. CORE's one fatal fault is a state it enters (R310), so no step ends in a fault. Safe. -/
inductive Fault where
  deriving DecidableEq, Repr

/-- Why the model declines. -/
inductive Refusal where
  /-- Raised by an arm of exec whose instruction has no meaning yet; no arm is. Safe. -/
  | notModelled (mnemonic : String)
  /-- Raised by State.constructChecked for a sense gain of 0: "A model refuses to construct CORE with one" (R8). Safe. -/
  | zeroSenseGain
  deriving DecidableEq, Repr

/-- A channel's register set after reset (R41). -/
def Chan.construct (p : ChanConstruction) : Chan where
  mode := .disabled
  period := p.periodReset
  duty1 := 0#32
  duty2 := 0#32
  vsense := 0#16
  isense := 0#16
  vsenseGain := p.vsenseGain
  isenseGain := p.isenseGain
  vsetpoint := 0#16
  isetpoint := 0#16
  ilimit := p.ilimitInit
  vlimit := p.vlimitInit
  vGains := p.vGains
  iGains := p.iGains
  active := false

/-- The fault record after reset (R41). -/
def FaultRecord.clear : FaultRecord where
  valid := false
  channel := none
  timer := none
  unit := none
  ticks := 0#49

/-- CORE built with the parameters `p`, right after reset (R41, R343), nothing having arrived and nothing emitted (R341). -/
def State.construct (p : Construction) : State where
  params := p
  ch1 := Chan.construct p.ch1
  ch2 := Chan.construct p.ch2
  source := .battery
  adcOn := false
  halted := false
  fault := FaultRecord.clear
  held := none
  responses := []
  driverOps := []
  inbox := []
  acks := []
  ackDraws := 0

/-- Construction with R8's check: a sense gain of 0 is refused. -/
def State.constructChecked (p : Construction) : Host.Outcome State Fault Refusal :=
  if p.Legal then .next (State.construct p) else .refused .zeroSenseGain

/-- The machine right after reset. -/
def State.reset : State := State.construct Config.construction

end Sys2Proof.Machine
end

