-- ==== Sys2Proof/Machine/Flags.lean ====
section
/-!
DEFINITION. Machine/Flags.lean: CORE has no condition codes (10_state.md R38). Here stand the tests its rules decide by:
the near-rail predicates, the limit trip, the tick range, the phase check, the activation count, and the fixed constants
of 00_scope.md R9 they use.
-/

namespace Sys2Proof.Machine

/-- FUDGE (R9). -/
def fudge : Int := 2000

/-- FULL_SCALE (R9): duty 1.0. -/
def fullScale : Nat := 0x10000

/-- HALF (R9): duty 0.5. -/
def half : Int := 0x8000

/-- DUTY_CLAMP_MAX (R9). -/
def dutyClampMax : Int := 0xFFFF

/-- TICK_MAX (R9). -/
def tickMax : Nat := 0xFFFF

/-- SAMPLE_RATE_HZ (R9). -/
def sampleRateHz : Word := 1000#32

/-- ADC_SEQUENCE (R9). -/
def adcSequence : List AdcInput := [.ch1V, .ch1I, .ch2V, .ch2I]

/-- near_full(d): d > FULL_SCALE - FUDGE (R140). -/
def nearFull (d : Int) : Bool := fullScale - fudge < d

/-- near_zero(d): d < FUDGE (R140). -/
def nearZero (d : Int) : Bool := d < fudge

/-- above_margin(d): d > FUDGE (R140). -/
def aboveMargin (d : Int) : Bool := fudge < d

/-- The limit test, strict and unsigned (R137). -/
def limitTrips (sense limit : Codepoint) : Bool := limit.toNat < sense.toNat

/-- The tick range check: n > 0xFFFF is fatal, n = 0xFFFF is legal (R172). -/
def tickOverflows (n : Nat) : Bool := tickMax < n

/-- The phase check: the offset must be less than the period (R177). -/
def phaseTooLarge (phase period : Word) : Bool := period.toNat ≤ phase.toNat

/-- The reference count chan[1].active + chan[2].active (R201). -/
def activeCount (s : State) : Nat := s.ch1.active.toNat + s.ch2.active.toNat

/-- SET_DUTY is legal only in these modes (R250). -/
def acceptsDuty : Mode → Bool
  | .disabled => true
  | .constantDuty => true
  | .currentFeedback => false
  | .voltageFeedback => false
  | .maxPower => false

end Sys2Proof.Machine
end

