-- ==== Sys2Proof/Machine/Operands.lean ====
section
/-!
DEFINITION. Machine/Operands.lean: the computations on operands, all on exact integers (00_scope.md R12): tick conversion
(R170), unit conversions (R253, R254), the setpoint limit (R255), error and gain product (R136, R146), clamp and halving
(R138, R147), and which unit drives channel 2 (R229).
-/

namespace Sys2Proof.Machine

/-- TICKS(d, P) = floor(d * P / 2^16) (R170). -/
def ticks (d p : Word) : Nat := d.toNat * p.toNat / 2 ^ 16

/-- RAW(v, g) = floor(v * g / 2^16) (R253). -/
def raw (v g : Word) : Nat := v.toNat * g.toNat / 2 ^ 16

/-- PHYS(r, g) = floor(r * 2^16 / g) (R254); g is at least 1 (R8; log 12). -/
def phys (r : Codepoint) (g : Word) : Word := BitVec.ofNat 32 (r.toNat * 2 ^ 16 / g.toNat)

/-- The limit SET_VSETPOINT checks against (R255). -/
def vsetpointLimit (sel : LimitSelect) (ch : Chan) : Codepoint :=
  match sel with
  | .opposing => ch.ilimit
  | .same => ch.vlimit

/-- The limit SET_ISETPOINT checks against (R255). -/
def isetpointLimit (sel : LimitSelect) (ch : Chan) : Codepoint :=
  match sel with
  | .opposing => ch.vlimit
  | .same => ch.ilimit

/-- err = zext(sense) - zext(setpoint) (R136). -/
def errorOf (sense setpoint : Codepoint) : Int := (sense.toNat : Int) - setpoint.toNat

/-- delta = floor(err * g / 2^16), g read as s32 (R146): Int division by a positive number rounds toward minus infinity. -/
def gainDelta (err : Int) (g : Word) : Int := err * g.toInt / 2 ^ 16

/-- clamp(d, 0, 0xFFFF), as the 32-bit duty register takes it (R147). -/
def clampDuty (d : Int) : Word := BitVec.ofInt 32 (max 0 (min d dutyClampMax))

/-- HALVE (R138). -/
def halve (d1 d2 : Int) : Int × Int := (d1 / 2, d2 / 2)

/-- A duty register's value as an exact integer (R24). -/
def dutyValue (d : Word) : Int := d.toNat

/-- UNIT(source) (R229). -/
def unitOf : Source → OcUnit
  | .battery => .ubat
  | .input => .uin

/-- The variant of each channel, fixed at construction (R30, R220). -/
def variantOf : Channel → Variant
  | .ch1 => .dualSwitch
  | .ch2 => .singleSwitch

/-- The other channel (R7). -/
def otherChannel : Channel → Channel
  | .ch1 => .ch2
  | .ch2 => .ch1

end Sys2Proof.Machine
end

