-- ==== Sys2Proof/Machine/Ops.lean ====
section
/-!
DEFINITION. Machine/Ops.lean: the named operations over CORE's state, which every meaning is written with: reading and
writing a channel's registers, emitting driver operations (00_scope.md R13), responding (R78), drawing an acknowledge
(R86), holding at a ready wait (R205), the one exception entry raiseFatal (60_exceptions.md R310) and the only way out of
it, reset (70_reset_and_hazards.md R340), and taking the next input (20_memory.md R51, R52).
-/

namespace Sys2Proof.Machine

/-! ### Channel registers -/

/-- chan[c]. -/
def State.chan (s : State) (c : Channel) : Chan :=
  match c with
  | .ch1 => s.ch1
  | .ch2 => s.ch2

/-- chan[c] <- f(chan[c]). -/
def modChan (c : Channel) (f : Chan → Chan) (s : State) : State :=
  match c with
  | .ch1 => { s with ch1 := f s.ch1 }
  | .ch2 => { s with ch2 := f s.ch2 }

def Chan.setMode (m : Mode) (ch : Chan) : Chan := { ch with mode := m }
def Chan.setPeriod (p : Word) (ch : Chan) : Chan := { ch with period := p }
/-- Both duties at once (R55). -/
def Chan.setDuties (d1 d2 : Word) (ch : Chan) : Chan := { ch with duty1 := d1, duty2 := d2 }
def Chan.setSenses (v i : Codepoint) (ch : Chan) : Chan := { ch with vsense := v, isense := i }
def Chan.setVsetpoint (v : Codepoint) (ch : Chan) : Chan := { ch with vsetpoint := v }
def Chan.setIsetpoint (i : Codepoint) (ch : Chan) : Chan := { ch with isetpoint := i }
def Chan.setActive (b : Bool) (ch : Chan) : Chan := { ch with active := b }

/-! ### Output ports -/

/-- emit, several operations in order (R13, R57). -/
def emitAll (ops : List DriverOp) (s : State) : State := { s with driverOps := s.driverOps ++ ops }

/-- emit OP (R13). -/
def emit (op : DriverOp) (s : State) : State := emitAll [op] s

/-- respond(st, d): one response ends the command (R13, R78). -/
def respond (st : Status) (d : Word) (s : State) : State := { s with responses := s.responses ++ [⟨st, d⟩] }

/-! ### Environment inputs -/

/-- The acknowledge bit of a CFG_OUTPUT (R86): the next one the environment has settled, or a free value past them. -/
def drawAck (s : State) : Bool × State :=
  match s.acks with
  | b :: rest => (b, { s with acks := rest })
  | [] => (Config.cfgOutputAck s.ackDraws, { s with ackDraws := s.ackDraws + 1 })

/-- hold until READY(x), with what remains to be done (R36, R205). -/
def hold (x : ReadyWait) (k : Resumption) (s : State) : State := { s with held := some ⟨x, k⟩ }

/-- The hold is over: the indication has arrived (R205). -/
def release (s : State) : State := { s with held := none }

/-! ### The fatal fault: entry, and reset as the only way out -/

/-- raise Fatal(channel, timer, unit, ticks): the record is written, HALT is asserted, the transaction ends without a response,
and a command held at a ready wait is abandoned (R310, R311). -/
def raiseFatal (c : Channel) (t : Timer) (u : OcUnit) (n : Nat) (s : State) : State :=
  { s with
    fault := { valid := true, channel := some c, timer := some t, unit := some u, ticks := BitVec.ofNat 49 n }
    halted := true
    held := none }

/-- Reset: every field at its reset value, the parameters loaded again, any transaction abandoned without a response, no driver
operation (R340, R341). What the ports have carried and what still waits at them is not CORE's to clear (log 3). -/
def resetEntry (s : State) : State :=
  { State.construct s.params with
    responses := s.responses
    driverOps := s.driverOps
    inbox := s.inbox
    acks := s.acks
    ackDraws := s.ackDraws }

/-- An operation that draws an acknowledge (R86). -/
def drawsAck : DriverOp → Bool
  | .cfgOutput _ _ _ _ _ => true
  | _ => false

/-- n acknowledges drawn, one after the other (R86). -/
def drawAcks : Nat → State → State
  | 0, s => s
  | n + 1, s => drawAcks n (drawAck s).2

/-- Reset asserted during a transaction that would have led from `s` to `t`, once `n` of its operations are out: those stay emitted and
their acknowledges drawn, the rest of it and its response never happen, and every field is reset (R340, R341; log 2). -/
def cutShort (n : Nat) (s t : State) : State :=
  let ops := (t.driverOps.drop s.driverOps.length).take n
  drawAcks (ops.countP drawsAck) (emitAll ops (resetEntry s))

/-! ### How a part of a transaction ends -/

/-- A procedure that may raise Fatal: it goes on, or the transaction has ended (R310). -/
inductive Flow where
  | on (s : State)
  | ended (s : State)
  deriving DecidableEq, Repr

/-- The state a procedure leaves. -/
def Flow.state : Flow → State
  | .on s => s
  | .ended s => s

/-- The next procedure, unless the transaction has ended. -/
def Flow.andThen (f : Flow) (g : State → Flow) : Flow :=
  match f with
  | .on s => g s
  | .ended s => .ended s

/-- CONFIGURE's three ends: OK, FAIL, Fatal raised (R107). -/
inductive Configured where
  | ok (s : State)
  | fail (s : State)
  | raised (s : State)
  deriving DecidableEq, Repr

/-- The state CONFIGURE leaves. -/
def Configured.state : Configured → State
  | .ok s => s
  | .fail s => s
  | .raised s => s

/-! ### Taking inputs -/

/-- The first input that is no command, and the inputs left: commands stay at the blocking port (R52). -/
def firstNonCommand : List Input → Option (Input × List Input)
  | [] => none
  | .command w :: rest => (firstNonCommand rest).map fun p => (p.1, .command w :: p.2)
  | .sample w :: rest => some (.sample w, rest)
  | .ready x :: rest => some (.ready x, rest)
  | .reset :: rest => some (.reset, rest)
  | .resetDuring n :: rest => some (.resetDuring n, rest)

/-- The input CORE takes next, and the inputs left. While a command is in progress (held) or CORE is halted, no command is
accepted (R51, R52, R311). -/
def nextInput (s : State) : Option (Input × List Input) :=
  if s.halted || s.held.isSome then firstNonCommand s.inbox
  else
    match s.inbox with
    | [] => none
    | i :: rest => some (i, rest)

/-- The input has been taken. -/
def setInbox (l : List Input) (s : State) : State := { s with inbox := l }

end Sys2Proof.Machine
end

