-- ==== Sys2Proof/Machine/Lifecycle.lean ====
section
/-!
DEFINITION. Machine/Lifecycle.lean: the shared ADC and trigger-timer lifecycle manager (44_peripheral_lifecycle.md). A
RECOMPUTE that takes the "on" branch holds twice; the rest of its command travels as a Resumption, and where RECOMPUTE
does not hold the rest runs at once.
-/

namespace Sys2Proof.Machine

/-- RECOMPUTE's "off" branch (R204, R207). -/
def recomputeOff (s : State) : State :=
  let s := emitAll [.adcPowerOff, .clkOff .tt, .adcOscOff] s
  { s with adcOn := false }

/-- The "on" branch up to its first wait (R204, R206.1). -/
def recomputeOn (k : Resumption) (s : State) : State :=
  hold .osc k (emit .adcOscOn s)

/-- The "on" branch from READY(OSC) to its second wait (R204, R206.2). -/
def recomputeAfterOsc (k : Resumption) (s : State) : State :=
  hold .adc k (emit .adcPowerOn s)

/-- The "on" branch from READY(ADC) to its end (R204, R206.3 to R206.6, R209). -/
def recomputeAfterAdc (s : State) : State :=
  let s := emitAll [.adcSeq adcSequence, .adcScanOn, .adcIrqOn, .clkOn .tt, .trigRate sampleRateHz, .trigStart] s
  { release s with adcOn := true }

/-- RECOMPUTE, the rest of the command being `k`, which is `rest` when nothing holds (R204). -/
def recompute (k : Resumption) (rest : State → State) (s : State) : State :=
  if activeCount s = 0 then rest (recomputeOff s) else recomputeOn k s

/-- ACQUIRE(c) (R202). -/
def acquire (c : Channel) (k : Resumption) (rest : State → State) (s : State) : State :=
  recompute k rest (modChan c (Chan.setActive true) s)

/-- RELEASE(c) (R203). -/
def releaseRef (c : Channel) (k : Resumption) (rest : State → State) (s : State) : State :=
  recompute k rest (modChan c (Chan.setActive false) s)

end Sys2Proof.Machine
end

