-- ==== Sys2Proof/Machine/Pwm.lean ====
section
/-!
DEFINITION. Machine/Pwm.lean: the PWM synthesizer's procedures (43_pwm_synthesizer.md).
-/

namespace Sys2Proof.Machine

/-- SET_DUTY_PWM(c, t, u, P, d) (R171): the range check comes before the operation that would carry the value (R172). -/
def setDutyPwm (c : Channel) (t : Timer) (u : OcUnit) (p d : Word) (s : State) : Flow :=
  if tickOverflows (ticks d p) then .ended (raiseFatal c t u (ticks d p) s)
  else .on (emit (.setCompare t u (BitVec.ofNat 16 (ticks d p))) s)

/-- CONFIGURE_SINGLE(t, u, P, pol, n) (R173): true for OK, false for FAIL. -/
def configureSingle (t : Timer) (u : OcUnit) (p : Word) (pol : Polarity) (n : Nat) (s : State) : Bool × State :=
  let r := drawAck (emit (.cfgOutput t u p pol (BitVec.ofNat 16 n)) s)
  if r.1 then (true, emitAll [.enableOutput t u, .start t] r.2) else (false, r.2)

/-- CONFIGURE_DUAL (R176): phase check (R177), timer A, timer B, master and slave link (R178), priming (R179); it stops at the
first failure. -/
def configureDual (tA : Timer) (uA : OcUnit) (tB : Timer) (uB : OcUnit) (p : Word) (na nb : Nat) (phase : Word)
    (polA polB : Polarity) (s : State) : Bool × State :=
  if phaseTooLarge phase p then (false, s)
  else
    let a := configureSingle tA uA p polA na s
    if a.1 then
      let b := configureSingle tB uB p polB nb a.2
      if b.1 then (true, emitAll [.setMasterMode tA, .setSlaveTrigger tB tA, .primePeriod tA (p - phase) p] b.2)
      else (false, b.2)
    else (false, a.2)

end Sys2Proof.Machine
end

