-- ==== Sys2Proof/Machine/Variants.lean ====
section
/-!
DEFINITION. Machine/Variants.lean: the capabilities ENABLE, CONFIGURE, DISABLE and UPDATE_DUTY of the two channel variants
(45_channel_variants.md R220 to R229), dispatched by the channel (R107), and the tail of a mode change that several
transactions share (R101, R105).
-/

namespace Sys2Proof.Machine

/-- The operations of ENABLE(c) before ACQUIRE (R221, R225). -/
def enableOps : Channel → List DriverOp
  | .ch1 => [.vdivOn, .clkOn .ta, .clkOn .tb]
  | .ch2 => [.clkOn .tc]

/-- The operations of DISABLE(c) before RELEASE (R223, R227). -/
def disableOps (src : Source) : Channel → List DriverOp
  | .ch1 =>
    [.disableOutput .ta .ua, .disableOutput .tb .ub, .stop .ta, .stop .tb, .clkOff .ta, .clkOff .tb, .vdivOff]
  | .ch2 => [.disableOutput .tc (unitOf src), .stop .tc, .clkOff .tc]

/-- ENABLE(c) (R221, R225). -/
def enable (c : Channel) (k : Resumption) (rest : State → State) (s : State) : State :=
  acquire c k rest (emitAll (enableOps c) s)

/-- DISABLE(c) (R223, R227). -/
def disable (c : Channel) (k : Resumption) (rest : State → State) (s : State) : State :=
  releaseRef c k rest (emitAll (disableOps s.source c) s)

/-- FAIL or OK of the synthesizer as CONFIGURE's end (R107). -/
def configuredOf (r : Bool × State) : Configured :=
  if r.1 then .ok r.2 else .fail r.2

/-- CONFIGURE(1) (R222): both tick counts are checked before anything is emitted, duty1's first. -/
def configure1 (s : State) : Configured :=
  let p := s.ch1.period
  let na := ticks s.ch1.duty1 p
  let nb := ticks s.ch1.duty2 p
  if tickOverflows na then .raised (raiseFatal .ch1 .ta .ua na s)
  else if tickOverflows nb then .raised (raiseFatal .ch1 .tb .ub nb s)
  else configuredOf (configureDual .ta .ua .tb .ub p na nb s.params.phaseOffset s.params.polA s.params.polB s)

/-- CONFIGURE(2) (R226). -/
def configure2 (s : State) : Configured :=
  let p := s.ch2.period
  let n := ticks s.ch2.duty1 p
  if tickOverflows n then .raised (raiseFatal .ch2 .tc (unitOf s.source) n s)
  else configuredOf (configureSingle .tc (unitOf s.source) p s.params.pol2 n s)

/-- CONFIGURE(c) (R107). -/
def configure (c : Channel) (s : State) : Configured :=
  match variantOf c with
  | .dualSwitch => configure1 s
  | .singleSwitch => configure2 s

/-- UPDATE_DUTY(c) (R224, R228): channel 2's duty2 drives no output. -/
def updateDuty (c : Channel) (s : State) : Flow :=
  match variantOf c with
  | .dualSwitch =>
    (setDutyPwm .ch1 .ta .ua s.ch1.period s.ch1.duty1 s).andThen
      (setDutyPwm .ch1 .tb .ub s.ch1.period s.ch1.duty2)
  | .singleSwitch => setDutyPwm .ch2 .tc (unitOf s.source) s.ch2.period s.ch2.duty1 s

/-- The mode forced or set to Disabled, then DISABLE, then the response (st, 0): mode first (R104, R105). -/
def disableAndRespond (c : Channel) (st : Status) (s : State) : State :=
  disable c (.respond st) (respond st 0#32) (modChan c (Chan.setMode .disabled) s)

/-- SET_MODE from its CONFIGURE on, towards mode m: the mode is written only after CONFIGURE succeeds (R101, R104, R105). -/
def configureAndSetMode (c : Channel) (m : Mode) (s : State) : State :=
  match configure c s with
  | .ok s => respond .ok 0#32 (modChan c (Chan.setMode m) s)
  | .fail s => disableAndRespond c .configFault s
  | .raised s => s

/-- What a held command does once RECOMPUTE has finished (R36). -/
def resume (k : Resumption) (s : State) : State :=
  match k with
  | .configure c m => configureAndSetMode c m s
  | .respond st => respond st 0#32 s

/-- The indication a held command waits for has arrived (R205). -/
def continueHeld (h : Held) (s : State) : State :=
  match h.wait with
  | .osc => recomputeAfterOsc h.rest s
  | .adc => resume h.rest (recomputeAfterAdc s)

end Sys2Proof.Machine
end

