-- ==== Sys2Proof/Machine/ConfigCommands.lean ====
section
/-!
DEFINITION. Machine/ConfigCommands.lean: the meanings of the configuration commands (46_configuration_api.md R250 to R263).
-/

namespace Sys2Proof.Machine

/-- SET_DUTY(c, d1, d2) (R250): the checks run in this order, and a rejected command writes nothing (R309). -/
def execSetDuty (c : Channel) (d1 d2 : Word) (s : State) : Host.Outcome State Fault Refusal :=
  .next <|
    if !acceptsDuty (s.chan c).mode then respond .rejected 0#32 s
    else if d1.toNat < d2.toNat then respond .rejected 0#32 s
    else if fullScale < d1.toNat then respond .rejected 0#32 s
    else
      let t := modChan c (Chan.setDuties d1 d2) s
      match (t.chan c).mode with
      | .constantDuty =>
        match configure c t with
        | .ok t => respond .ok 0#32 t
        | .fail t => disableAndRespond c .configFault t
        | .raised t => t
      | _ => respond .ok 0#32 t

/-- GET_DUTY1(c) (R251). -/
def execGetDuty1 (c : Channel) (s : State) : Host.Outcome State Fault Refusal :=
  .next (respond .ok (s.chan c).duty1 s)

/-- GET_DUTY2(c) (R252). -/
def execGetDuty2 (c : Channel) (s : State) : Host.Outcome State Fault Refusal :=
  .next (respond .ok (s.chan c).duty2 s)

/-- SET_VSETPOINT(c, v) (R256). -/
def execSetVsetpoint (c : Channel) (v : Word) (s : State) : Host.Outcome State Fault Refusal :=
  let r := raw v (s.chan c).vsenseGain
  .next <|
    if (vsetpointLimit s.params.limitSelect (s.chan c)).toNat < r then respond .rejected 0#32 s
    else respond .ok 0#32 (modChan c (Chan.setVsetpoint (BitVec.ofNat 16 r)) s)

/-- SET_ISETPOINT(c, v) (R257). -/
def execSetIsetpoint (c : Channel) (v : Word) (s : State) : Host.Outcome State Fault Refusal :=
  let r := raw v (s.chan c).isenseGain
  .next <|
    if (isetpointLimit s.params.limitSelect (s.chan c)).toNat < r then respond .rejected 0#32 s
    else respond .ok 0#32 (modChan c (Chan.setIsetpoint (BitVec.ofNat 16 r)) s)

/-- GET_VSETPOINT(c) (R258). -/
def execGetVsetpoint (c : Channel) (s : State) : Host.Outcome State Fault Refusal :=
  .next (respond .ok (phys (s.chan c).vsetpoint (s.chan c).vsenseGain) s)

/-- GET_ISETPOINT(c) (R259). -/
def execGetIsetpoint (c : Channel) (s : State) : Host.Outcome State Fault Refusal :=
  .next (respond .ok (phys (s.chan c).isetpoint (s.chan c).isenseGain) s)

/-- GET_VSENSE(c) (R260). -/
def execGetVsense (c : Channel) (s : State) : Host.Outcome State Fault Refusal :=
  .next (respond .ok (phys (s.chan c).vsense (s.chan c).vsenseGain) s)

/-- GET_ISENSE(c) (R261). -/
def execGetIsense (c : Channel) (s : State) : Host.Outcome State Fault Refusal :=
  .next (respond .ok (phys (s.chan c).isense (s.chan c).isenseGain) s)

/-- SET_PERIOD(c, P) (R262). -/
def execSetPeriod (c : Channel) (p : Word) (s : State) : Host.Outcome State Fault Refusal :=
  .next <|
    match (s.chan c).mode with
    | .disabled => respond .ok 0#32 (modChan c (Chan.setPeriod p) s)
    | _ => respond .rejected 0#32 s

/-- GET_PERIOD(c) (R263). -/
def execGetPeriod (c : Channel) (s : State) : Host.Outcome State Fault Refusal :=
  .next (respond .ok (s.chan c).period s)

end Sys2Proof.Machine
end

