-- ==== Sys2Proof/Syntax.lean ====
section
/-!
DEFINITION. Syntax.lean: the instructions of CORE, one constructor per row of spec/opcode_table.json
(30_encoding.md R74, R77, R82). Operands stand as the spec reads them: a channel, a mode, a source, u32 words used
unchanged (R73), codepoints. Operand words a command ignores are not part of it (R73).
-/

namespace Sys2Proof

/-- What CORE can be asked to do by one word on one of its ports. -/
inductive Instr where
  /-- SET_MODE (R101). -/
  | setMode (c : Channel) (m : Mode)
  /-- GET_MODE (R106). -/
  | getMode (c : Channel)
  /-- SET_DUTY (R250): `d1` and `d2` are 16.16 duty fractions. -/
  | setDuty (c : Channel) (d1 d2 : Word)
  /-- GET_DUTY1 (R251). -/
  | getDuty1 (c : Channel)
  /-- GET_DUTY2 (R252). -/
  | getDuty2 (c : Channel)
  /-- SET_VSETPOINT (R256): `v` is an unsigned 16.16 physical value. -/
  | setVsetpoint (c : Channel) (v : Word)
  /-- SET_ISETPOINT (R257): `v` is an unsigned 16.16 physical value. -/
  | setIsetpoint (c : Channel) (v : Word)
  /-- GET_VSETPOINT (R258). -/
  | getVsetpoint (c : Channel)
  /-- GET_ISETPOINT (R259). -/
  | getIsetpoint (c : Channel)
  /-- GET_VSENSE (R260). -/
  | getVsense (c : Channel)
  /-- GET_ISENSE (R261). -/
  | getIsense (c : Channel)
  /-- SET_CH2_SOURCE (R230): always channel 2. -/
  | setCh2Source (src : Source)
  /-- SET_PERIOD (R262): `ticks` in timer ticks. -/
  | setPeriod (c : Channel) (ticks : Word)
  /-- GET_PERIOD (R263). -/
  | getPeriod (c : Channel)
  /-- SAMPLE (R130): channel 1 voltage and current, channel 2 voltage and current (R82). -/
  | sample (v1 i1 v2 i2 : Codepoint)
  /-- The table's (reserved) row: a command word that encodes no command, kept as it stands (R77). -/
  | reserved (h a b : Word)
  deriving DecidableEq, Repr

end Sys2Proof
end

