-- ==== Sys2Proof/WellFormed.lean ====
section
/-!
DEFINITION. WellFormed.lean: which terms of Instr stand for a port word. Operand types leave one check: a `reserved`
term must hold a word that is ILLEGAL by 30_encoding.md R77, written here condition by condition.
-/

namespace Sys2Proof

/-- R77.1: OPC is 0x00 or lies in 0x0F..0xFF. -/
def reservedOpcode (h : Word) : Bool :=
  h.toNat % 256 == 0 || 0x0F ≤ h.toNat % 256

/-- R77.2: RSV = H[31:9] is not 0. -/
def reservedBitsSet (h : Word) : Bool :=
  h.toNat / 512 != 0

/-- R77.3: SET_CH2_SOURCE with CH = 0. -/
def sourceOnChannel1 (h : Word) : Bool :=
  h.toNat % 256 == 0x0C && h.toNat / 256 % 2 == 0

/-- R77.4: SET_MODE with a code above 4. -/
def modeCodeOutOfRange (h a : Word) : Bool :=
  h.toNat % 256 == 0x01 && 4 < a.toNat

/-- R77.5: SET_CH2_SOURCE with a code above 1. -/
def sourceCodeOutOfRange (h a : Word) : Bool :=
  h.toNat % 256 == 0x0C && 1 < a.toNat

/-- R77: a command is ILLEGAL when any one of the five conditions holds. -/
def illegalEncoding (h a : Word) : Bool :=
  reservedOpcode h || reservedBitsSet h || sourceOnChannel1 h || modeCodeOutOfRange h a || sourceCodeOutOfRange h a

/-- A term of Instr that some port word stands for. -/
def Instr.wellFormed : Instr → Bool
  | .reserved h a _ => illegalEncoding h a
  | .setMode _ _ => true
  | .getMode _ => true
  | .setDuty _ _ _ => true
  | .getDuty1 _ => true
  | .getDuty2 _ => true
  | .setVsetpoint _ _ => true
  | .setIsetpoint _ _ => true
  | .getVsetpoint _ => true
  | .getIsetpoint _ => true
  | .getVsense _ => true
  | .getIsense _ => true
  | .setCh2Source _ => true
  | .setPeriod _ _ => true
  | .getPeriod _ => true
  | .sample _ _ _ _ => true

end Sys2Proof
end

