-- ==== Sys2Proof/Decode.lean ====
section
/-!
DEFINITION. Decode.lean: the encodings of 30_encoding.md in both directions: command and sample words to instructions
(total: R77, R83) and back, mode, source, status, channel and polarity codes, the response word, the byte transport of
20_memory.md R53, and the assembly text of R87. Every layout is written from the bit tables of R70 to R87.
-/

namespace Sys2Proof

/-! ### Codes -/

/-- CH: 0 selects channel 1, 1 selects channel 2 (R72). -/
def channelBit : Channel → BitVec 1
  | .ch1 => 0#1
  | .ch2 => 1#1

/-- R72: c = CH + 1. -/
def channelOfBit (b : BitVec 1) : Channel :=
  if b = 0#1 then .ch1 else .ch2

/-- Channel numbers 1 and 2 (R7). -/
def channelNumber : Channel → Nat
  | .ch1 => 1
  | .ch2 => 2

/-- Mode codes (R75), as the 3-bit register holds them (R22). -/
def modeCode : Mode → BitVec 3
  | .disabled => 0#3
  | .constantDuty => 1#3
  | .currentFeedback => 2#3
  | .voltageFeedback => 3#3
  | .maxPower => 4#3

/-- The mode an operand word names, none above 4 (R75, R77.4). -/
def modeOfCode (a : Word) : Option Mode :=
  match a.toNat with
  | 0 => some .disabled
  | 1 => some .constantDuty
  | 2 => some .currentFeedback
  | 3 => some .voltageFeedback
  | 4 => some .maxPower
  | _ => none

/-- Source codes (R76). -/
def sourceCode : Source → BitVec 1
  | .battery => 0#1
  | .input => 1#1

/-- The source an operand word names, none above 1 (R76, R77.5). -/
def sourceOfCode (a : Word) : Option Source :=
  match a.toNat with
  | 0 => some .battery
  | 1 => some .input
  | _ => none

/-- Status codes ST (R79). -/
def statusCode : Status → BitVec 8
  | .ok => 0#8
  | .rejected => 1#8
  | .configFault => 2#8
  | .illegal => 3#8

/-- Polarity codes (R85). -/
def polarityCode : Polarity → BitVec 1
  | .risingFirst => 0#1
  | .fallingFirst => 1#1

/-- The 40-bit response word: RSP[39:32] = ST, RSP[31:0] = D (R78). -/
def responseWord (st : Status) (d : Word) : BitVec 40 :=
  statusCode st ++ d

/-! ### Decoding commands and samples -/

/-- H = CMD[95:64] (R70). -/
def cmdH (w : BitVec 96) : Word := w.extractLsb' 64 32

/-- A = CMD[63:32] (R70). -/
def cmdA (w : BitVec 96) : Word := w.extractLsb' 32 32

/-- B = CMD[31:0] (R70). -/
def cmdB (w : BitVec 96) : Word := w.extractLsb' 0 32

/-- OPC = H[7:0] (R71). -/
def headerOpc (h : Word) : BitVec 8 := h.extractLsb' 0 8

/-- CH = H[8] (R71). -/
def headerCh (h : Word) : BitVec 1 := h.extractLsb' 8 1

/-- RSV = H[31:9] (R71). -/
def headerRsv (h : Word) : BitVec 23 := h.extractLsb' 9 23

/-- The instruction of the words {H, A, B}: the opcode map of R74, and `reserved` for what R77 calls ILLEGAL. -/
def decodeWords (h a b : Word) : Instr :=
  let c := channelOfBit (headerCh h)
  if headerRsv h ≠ 0#23 then .reserved h a b
  else
    match (headerOpc h).toNat with
    | 0x01 =>
      match modeOfCode a with
      | some m => .setMode c m
      | none => .reserved h a b
    | 0x02 => .getMode c
    | 0x03 => .setDuty c a b
    | 0x04 => .getDuty1 c
    | 0x05 => .getDuty2 c
    | 0x06 => .setVsetpoint c a
    | 0x07 => .setIsetpoint c a
    | 0x08 => .getVsetpoint c
    | 0x09 => .getIsetpoint c
    | 0x0A => .getVsense c
    | 0x0B => .getIsense c
    | 0x0C =>
      match c, sourceOfCode a with
      | .ch2, some src => .setCh2Source src
      | _, _ => .reserved h a b
    | 0x0D => .setPeriod c a
    | 0x0E => .getPeriod c
    | _ => .reserved h a b

/-- The instruction of a command word, total (R70, R77). -/
def decodeCommand (w : BitVec 96) : Instr :=
  decodeWords (cmdH w) (cmdA w) (cmdB w)

/-- The SAMPLE of a sample word: every 64-bit value is legal (R82, R83). -/
def decodeSample (w : BitVec 64) : Instr :=
  .sample (w.extractLsb' 0 16) (w.extractLsb' 16 16) (w.extractLsb' 32 16) (w.extractLsb' 48 16)

/-- The instruction a port word stands for. -/
def decode : PortWord → Instr
  | .command w => decodeCommand w
  | .sample w => decodeSample w

/-! ### Encoding -/

/-- {H, A, B} (R70). -/
def packCommand (h a b : Word) : BitVec 96 := h ++ a ++ b

/-- H with RSV = 0, the channel bit and the opcode: H = OPC | (N - 1) << 8 (R71, R87). -/
def header (opc : BitVec 8) (c : Channel) : Word := 0#23 ++ channelBit c ++ opc

/-- S = {i2, v2, i1, v1} (R82, R87). -/
def packSample (v1 i1 v2 i2 : Codepoint) : BitVec 64 := i2 ++ v2 ++ i1 ++ v1

/-- The port word of an instruction: A = 0 and B = 0 where the command has no such operand (R87). -/
def encode : Instr → PortWord
  | .setMode c m => .command (packCommand (header 0x01#8 c) ((modeCode m).zeroExtend 32) 0#32)
  | .getMode c => .command (packCommand (header 0x02#8 c) 0#32 0#32)
  | .setDuty c d1 d2 => .command (packCommand (header 0x03#8 c) d1 d2)
  | .getDuty1 c => .command (packCommand (header 0x04#8 c) 0#32 0#32)
  | .getDuty2 c => .command (packCommand (header 0x05#8 c) 0#32 0#32)
  | .setVsetpoint c v => .command (packCommand (header 0x06#8 c) v 0#32)
  | .setIsetpoint c v => .command (packCommand (header 0x07#8 c) v 0#32)
  | .getVsetpoint c => .command (packCommand (header 0x08#8 c) 0#32 0#32)
  | .getIsetpoint c => .command (packCommand (header 0x09#8 c) 0#32 0#32)
  | .getVsense c => .command (packCommand (header 0x0A#8 c) 0#32 0#32)
  | .getIsense c => .command (packCommand (header 0x0B#8 c) 0#32 0#32)
  | .setCh2Source src => .command (packCommand (header 0x0C#8 .ch2) ((sourceCode src).zeroExtend 32) 0#32)
  | .setPeriod c p => .command (packCommand (header 0x0D#8 c) p 0#32)
  | .getPeriod c => .command (packCommand (header 0x0E#8 c) 0#32 0#32)
  | .sample v1 i1 v2 i2 => .sample (packSample v1 i1 v2 i2)
  | .reserved h a b => .command (packCommand h a b)

/-! ### The table's numbering of bits -/

/-- The port word whose bits are `w` as spec/opcode_table.json numbers them. The SAMPLE row is the 64-bit one; a command's first
word is H (bits 31..0), then A (bits 63..32), then B (bits 95..64). DEDUCED (log 13): the table's match and mask "apply to
the 32-bit header word H". -/
def tablePortWord (nbits w : Nat) : PortWord :=
  if nbits = 64 then .sample (BitVec.ofNat 64 w)
  else
    let w := w % 2 ^ nbits
    .command (packCommand (BitVec.ofNat 32 w) (BitVec.ofNat 32 (w / 2 ^ 32)) (BitVec.ofNat 32 (w / 2 ^ 64)))

/-- The instruction the decoder reads from an instruction whose bits are `w` in the table's numbering. -/
def decodeTableWord (nbits w : Nat) : Option Instr :=
  some (decode (tablePortWord nbits w))

/-! ### The byte transport of R53 (outside CORE) -/

/-- Why a byte string is no port word: the transport delivered another number of bytes than the port's word has.
DESIGN CHOICE, safe (log 15). -/
inductive DecodeError where
  | commandNotTwelveBytes
  | sampleNotEightBytes
  deriving DecidableEq, Repr

/-- Byte k of a word is bits [8k+7:8k] (R53): the value of bytes given from byte 0 up. -/
def natOfBytesLE : List Byte → Nat
  | [] => 0
  | b :: rest => b.toNat + 256 * natOfBytesLE rest

/-- The first n bytes of a value, byte 0 first (R53). -/
def bytesOfNatLE : Nat → Nat → List Byte
  | 0, _ => []
  | n + 1, v => BitVec.ofNat 8 v :: bytesOfNatLE n (v / 256)

/-- The value of a byte string in transport order, under PORT_BYTE_ORDER (R53). The big order is DESIGN CHOICE, safe (log 15). -/
def natOfBytes : ByteOrder → List Byte → Nat
  | .little, bs => natOfBytesLE bs
  | .big, bs => natOfBytesLE bs.reverse

/-- The bytes of an n-byte value in transport order, under PORT_BYTE_ORDER (R53). The big order is DESIGN CHOICE, safe (log 15). -/
def bytesOfNat : ByteOrder → Nat → Nat → List Byte
  | .little, n, v => bytesOfNatLE n v
  | .big, n, v => (bytesOfNatLE n v).reverse

/-- The command word twelve bytes carry: total on any bytes, rejecting by name (R53, R70). -/
def commandOfBytes (bs : List Byte) (o : ByteOrder := Config.portByteOrder) : Except DecodeError (BitVec 96) :=
  if bs.length = 12 then .ok (BitVec.ofNat 96 (natOfBytes o bs)) else .error .commandNotTwelveBytes

/-- The sample word eight bytes carry: total on any bytes, rejecting by name (R53, R82). -/
def sampleOfBytes (bs : List Byte) (o : ByteOrder := Config.portByteOrder) : Except DecodeError (BitVec 64) :=
  if bs.length = 8 then .ok (BitVec.ofNat 64 (natOfBytes o bs)) else .error .sampleNotEightBytes

/-- The instruction of a command serialised into bytes. -/
def decodeCommandBytes (bs : List Byte) (o : ByteOrder := Config.portByteOrder) : Except DecodeError Instr :=
  (commandOfBytes bs o).map decodeCommand

/-- The instruction of a sample word serialised into bytes. -/
def decodeSampleBytes (bs : List Byte) (o : ByteOrder := Config.portByteOrder) : Except DecodeError Instr :=
  (sampleOfBytes bs o).map decodeSample

/-- A port word serialised into bytes (R53). -/
def portWordBytes (p : PortWord) (o : ByteOrder := Config.portByteOrder) : List Byte :=
  match p with
  | .command w => bytesOfNat o 12 w.toNat
  | .sample w => bytesOfNat o 8 w.toNat

/-- A response serialised into bytes (R53, R78). -/
def responseBytes (st : Status) (d : Word) (o : ByteOrder := Config.portByteOrder) : List Byte :=
  bytesOfNat o 5 (responseWord st d).toNat

/-! ### Assembly text (R87) -/

/-- `ch1` or `ch2` (R87). -/
def channelText : Channel → String
  | .ch1 => "ch1"
  | .ch2 => "ch2"

/-- Mode operands by name (R87). -/
def modeText : Mode → String
  | .disabled => "Disabled"
  | .constantDuty => "ConstantDuty"
  | .currentFeedback => "CurrentFeedback"
  | .voltageFeedback => "VoltageFeedback"
  | .maxPower => "MaxPower"

/-- Source operands by name (R87). -/
def sourceText : Source → String
  | .battery => "BATTERY"
  | .input => "INPUT"

/-- The assembly text of an instruction, numbers in decimal; a reserved word has none (R87, R88). -/
def assemblyText : Instr → Option String
  | .setMode c m => some ("SET_MODE " ++ channelText c ++ ", " ++ modeText m)
  | .getMode c => some ("GET_MODE " ++ channelText c)
  | .setDuty c d1 d2 => some ("SET_DUTY " ++ channelText c ++ ", " ++ toString d1.toNat ++ ", " ++ toString d2.toNat)
  | .getDuty1 c => some ("GET_DUTY1 " ++ channelText c)
  | .getDuty2 c => some ("GET_DUTY2 " ++ channelText c)
  | .setVsetpoint c v => some ("SET_VSETPOINT " ++ channelText c ++ ", " ++ toString v.toNat)
  | .setIsetpoint c v => some ("SET_ISETPOINT " ++ channelText c ++ ", " ++ toString v.toNat)
  | .getVsetpoint c => some ("GET_VSETPOINT " ++ channelText c)
  | .getIsetpoint c => some ("GET_ISETPOINT " ++ channelText c)
  | .getVsense c => some ("GET_VSENSE " ++ channelText c)
  | .getIsense c => some ("GET_ISENSE " ++ channelText c)
  | .setCh2Source src => some ("SET_CH2_SOURCE ch2, " ++ sourceText src)
  | .setPeriod c p => some ("SET_PERIOD " ++ channelText c ++ ", " ++ toString p.toNat)
  | .getPeriod c => some ("GET_PERIOD " ++ channelText c)
  | .sample v1 i1 v2 i2 =>
    some ("SAMPLE " ++ toString v1.toNat ++ ", " ++ toString i1.toNat ++ ", " ++ toString v2.toNat ++ ", " ++ toString i2.toNat)
  | .reserved _ _ _ => none

end Sys2Proof
end

