-- ==== Sys2Proof/Machine/ModeCommands.lean ====
section
/-!
DEFINITION. Machine/ModeCommands.lean: the meanings of SET_MODE and GET_MODE (41_mode_state_machine.md).
-/

namespace Sys2Proof.Machine

/-- SET_MODE(c, m) (R101, R103, R104, R105). -/
def execSetMode (c : Channel) (m : Mode) (s : State) : Host.Outcome State Fault Refusal :=
  .next <|
    match m with
    | .maxPower => respond .rejected 0#32 s
    | .disabled => disableAndRespond c .ok s
    | .constantDuty | .currentFeedback | .voltageFeedback =>
      match (s.chan c).mode with
      | .disabled => enable c (.configure c m) (configureAndSetMode c m) s
      | _ => configureAndSetMode c m s

/-- GET_MODE(c) (R106). -/
def execGetMode (c : Channel) (s : State) : Host.Outcome State Fault Refusal :=
  .next (respond .ok ((modeCode (s.chan c).mode).zeroExtend 32) s)

end Sys2Proof.Machine
end

