-- ==== Sys2Proof/Machine/Feedback.lean ====
section
/-!
DEFINITION. Machine/Feedback.lean: the feedback controller and the two-switch mixing algorithm (42_feedback_controller.md
R132 to R151).
-/

namespace Sys2Proof.Machine

/-- The branch of MIX that is taken (R141 to R145), before the invariant step. Branch 4 is literal (R145). -/
def mixBranch (err : Int) (g : GainPair) (d1 d2 : Int) : Int × Int :=
  if err < 0 && nearFull d1 && nearFull d2 then (half, half)
  else if err < 0 && nearFull d1 then (d1, d2 - gainDelta err g.g2)
  else if 0 < err && nearZero d1 then (d1, d2 - gainDelta err g.g2)
  else if err < 0 && aboveMargin d2 then (d1, d2 + gainDelta err g.g2)
  else (d1 - gainDelta err g.g1, d2)

/-- The invariant step: d2 is lowered to d1 where it exceeds it (R148). -/
def invariantStep (d : Int × Int) : Int × Int :=
  if d.1 < d.2 then (d.1, d.1) else d

/-- MIX (R141). -/
def mix (err : Int) (g : GainPair) (d1 d2 : Int) : Int × Int :=
  invariantStep (mixBranch err g d1 d2)

/-- The duties FEEDBACK computes for a channel before the clamp; none where its mode takes no action (R132 to R135). -/
def regulate (ch : Chan) : Option (Int × Int) :=
  let d1 := dutyValue ch.duty1
  let d2 := dutyValue ch.duty2
  match ch.mode with
  | .disabled => none
  | .constantDuty => none
  | .maxPower => none
  | .voltageFeedback =>
    if limitTrips ch.isense ch.ilimit then some (halve d1 d2)
    else some (mix (errorOf ch.vsense ch.vsetpoint) ch.vGains d1 d2)
  | .currentFeedback =>
    if limitTrips ch.vsense ch.vlimit then some (halve d1 d2)
    else some (mix (errorOf ch.isense ch.isetpoint) ch.iGains d1 d2)

/-- FEEDBACK(c): clamp, write both duties, UPDATE_DUTY (R132, R139, R147). -/
def feedback (c : Channel) (s : State) : Flow :=
  match regulate (s.chan c) with
  | none => .on s
  | some d => updateDuty c (modChan c (Chan.setDuties (clampDuty d.1) (clampDuty d.2)) s)

end Sys2Proof.Machine
end

