-- ==== Sys2Proof/Machine/Sample.lean ====
section
/-!
DEFINITION. Machine/Sample.lean: the meaning of SAMPLE, CORE's one interrupt (42_feedback_controller.md R130, R131).
-/

namespace Sys2Proof.Machine

/-- The four sense registers (R130). -/
def writeSenses (v1 i1 v2 i2 : Codepoint) (s : State) : State :=
  modChan .ch2 (Chan.setSenses v2 i2) (modChan .ch1 (Chan.setSenses v1 i1) s)

/-- SAMPLE (R130): the senses of both channels, then FEEDBACK(1), then FEEDBACK(2) unless Fatal was raised; no response. -/
def execSample (v1 i1 v2 i2 : Codepoint) (s : State) : Host.Outcome State Fault Refusal :=
  .next ((feedback .ch1 (writeSenses v1 i1 v2 i2 s)).andThen (feedback .ch2)).state

end Sys2Proof.Machine
end

