-- ==== Sys2Proof/Machine/SourceCommand.lean ====
section
/-!
DEFINITION. Machine/SourceCommand.lean: the meaning of SET_CH2_SOURCE (45_channel_variants.md R230), and of a command word
that encodes no command (30_encoding.md R77, 60_exceptions.md R301).
-/

namespace Sys2Proof.Machine

/-- SET_CH2_SOURCE(src) (R230). -/
def execSetCh2Source (src : Source) (s : State) : Host.Outcome State Fault Refusal :=
  .next <|
    match s.ch2.mode with
    | .disabled => respond .ok 0#32 { s with source := src }
    | _ => respond .rejected 0#32 s

/-- An ILLEGAL command word: the response (ILLEGAL, 0), no state change, no driver operation (R77, R301). -/
def execReserved (s : State) : Host.Outcome State Fault Refusal :=
  .next (respond .illegal 0#32 s)

end Sys2Proof.Machine
end

