-- ==== Sys2Proof/Machine/Dispatch.lean ====
section
/-!
DEFINITION. Machine/Dispatch.lean: each instruction's meaning, the transaction CORE runs once it has accepted the word
(Step.lean decides whether it accepts).
-/

namespace Sys2Proof.Machine

def exec (i : Instr) (s : State) : Host.Outcome State Fault Refusal :=
  match i with
  | .setMode c m => Sys2Proof.Machine.execSetMode c m s
  | .getMode c => Sys2Proof.Machine.execGetMode c s
  | .setDuty c d1 d2 => Sys2Proof.Machine.execSetDuty c d1 d2 s
  | .getDuty1 c => Sys2Proof.Machine.execGetDuty1 c s
  | .getDuty2 c => Sys2Proof.Machine.execGetDuty2 c s
  | .setVsetpoint c v => Sys2Proof.Machine.execSetVsetpoint c v s
  | .setIsetpoint c v => Sys2Proof.Machine.execSetIsetpoint c v s
  | .getVsetpoint c => Sys2Proof.Machine.execGetVsetpoint c s
  | .getIsetpoint c => Sys2Proof.Machine.execGetIsetpoint c s
  | .getVsense c => Sys2Proof.Machine.execGetVsense c s
  | .getIsense c => Sys2Proof.Machine.execGetIsense c s
  | .setCh2Source src => Sys2Proof.Machine.execSetCh2Source src s
  | .setPeriod c p => Sys2Proof.Machine.execSetPeriod c p s
  | .getPeriod c => Sys2Proof.Machine.execGetPeriod c s
  | .sample v1 i1 v2 i2 => Sys2Proof.Machine.execSample v1 i1 v2 i2 s
  | .reserved _ _ _ => Sys2Proof.Machine.execReserved s

end Sys2Proof.Machine
end

