-- ==== Sys2Proof/Machine/Serve.lean ====
section
/-!
DEFINITION. Machine/Serve.lean: what CORE does with an input it has taken: one transaction, or the next part of a held command
(20_memory.md R51, R52, R56), or reset (70_reset_and_hazards.md R340).
-/

namespace Sys2Proof.Machine

/-- An accepted command: one transaction (R51). -/
def serveCommand (w : BitVec 96) (s : State) : Host.Outcome State Fault Refusal :=
  exec (decodeCommand w) s

/-- A sample word: one transaction, whether or not a command is held; ignored while halted (R51, R311). -/
def serveSample (w : BitVec 64) (s : State) : Host.Outcome State Fault Refusal :=
  if s.halted then .next s else exec (decodeSample w) s

/-- A ready indication: the held command goes on if it waits for this one; otherwise nothing waits for it (R86, R205, R311; log 4). -/
def serveReady (x : ReadyWait) (s : State) : Host.Outcome State Fault Refusal :=
  match s.held with
  | some h => if h.wait = x && !s.halted then .next (continueHeld h s) else .next s
  | none => .next s

/-- An input that is no reset during another. -/
def serveInput (i : Input) (s : State) : Host.Outcome State Fault Refusal :=
  match i with
  | .command w => serveCommand w s
  | .sample w => serveSample w s
  | .ready x => serveReady x s
  | .reset => .next (resetEntry s)
  | .resetDuring _ => .next (resetEntry s)

/-- Reset during the transaction of the next input, or a plain reset where there is none (R340; log 2). -/
def serveResetDuring (n : Nat) (s : State) : Host.Outcome State Fault Refusal :=
  match nextInput s with
  | none => .next (resetEntry s)
  | some (i, rest) =>
    match serveInput i (setInbox rest s) with
    | .next t => .next (cutShort n (setInbox rest s) t)
    | .fault f => .fault f
    | .refused r => .refused r

/-- What CORE does with an input it has taken. -/
def serve (i : Input) (s : State) : Host.Outcome State Fault Refusal :=
  match i with
  | .resetDuring n => serveResetDuring n s
  | .command w => serveInput (.command w) s
  | .sample w => serveInput (.sample w) s
  | .ready x => serveInput (.ready x) s
  | .reset => serveInput .reset s

/-- The input that delivers a port word. -/
def inputOfPortWord : PortWord → Input
  | .command w => .command w
  | .sample w => .sample w

end Sys2Proof.Machine
end

