-- ==== Sys2Proof/Machine/Step.lean ====
section
/-!
DEFINITION. Machine/Step.lean: one step of CORE takes one input (Ops.lean says which) and serves it (Serve.lean). With nothing to
take CORE waits: the state stays as it is.
-/

namespace Sys2Proof.Machine

/-- One step. -/
def step (s : State) : Host.Outcome State Fault Refusal :=
  match nextInput s with
  | none => .next s
  | some (i, rest) => serve i (setInbox rest s)

/-- `s` with the instruction whose bits (in the table's numbering) are `w` delivered on its port, before every other input. -/
def State.withFetchWord (s : State) (nbits w : Nat) : State :=
  setInbox (inputOfPortWord (tablePortWord nbits w) :: s.inbox) s

end Sys2Proof.Machine
end

