-- ==== Sys2Proof/Machine/Transport.lean ====
section
/-!
DEFINITION. Machine/Transport.lean: the byte transport outside CORE (20_memory.md R53) at CORE's ports: it reads and writes whole
port words as bytes in the order the construction parameter PORT_BYTE_ORDER gives. The step does not use it (log 15).
-/

namespace Sys2Proof.Machine

/-- A port word has arrived, behind every input that waits (log 1). -/
def arrive (i : Input) (s : State) : State := setInbox (s.inbox ++ [i]) s

/-- Bytes for the command port. -/
def deliverCommandBytes (bs : List Byte) (s : State) : Except DecodeError State :=
  (commandOfBytes bs s.params.portByteOrder).map fun w => arrive (.command w) s

/-- Bytes for the sample port. -/
def deliverSampleBytes (bs : List Byte) (s : State) : Except DecodeError State :=
  (sampleOfBytes bs s.params.portByteOrder).map fun w => arrive (.sample w) s

/-- The bytes the response port has carried so far, one response after the other. -/
def responsePortBytes (s : State) : List Byte :=
  s.responses.flatMap fun r => responseBytes r.st r.d s.params.portByteOrder

end Sys2Proof.Machine
end

