-- ==== Sys2Proof/Safety.lean ====
section
/-!
DEFINITION. Safety.lean: what counts as a good state of CORE, in the terms the claims use: the invariants of 10_state.md R37
with what must hold while a command is held at a ready wait, the constancy of the construction parameters (R26, R28, R29),
and the setpoint bounds (R21, R27).
-/

namespace Sys2Proof.Machine

/-- R24, R37: duty2 <= duty1 <= 0x10000. -/
abbrev DutiesOrdered (ch : Chan) : Prop :=
  ch.duty2.toNat ≤ ch.duty1.toNat ∧ ch.duty1.toNat ≤ 0x10000

/-- R37: active = 1 exactly when mode is not Disabled. -/
abbrev ActiveMatchesMode (ch : Chan) : Prop :=
  ch.active = true ↔ ch.mode ≠ .disabled

/-- R37 at a transaction boundary, and what takes its place while a command is held (R36, R51, R104): a command held before
CONFIGURE has its channel active and still Disabled; one held after DISABLE only its response to give. -/
abbrev Boundary (s : State) : Prop :=
  match s.held with
  | none => (ActiveMatchesMode s.ch1 ∧ ActiveMatchesMode s.ch2) ∧ (s.adcOn = true ↔ 0 < activeCount s)
  | some ⟨_, .respond _⟩ => (ActiveMatchesMode s.ch1 ∧ ActiveMatchesMode s.ch2) ∧ 0 < activeCount s
  | some ⟨_, .configure c m⟩ =>
    ((s.chan c).active = true ∧ (s.chan c).mode = .disabled) ∧ ActiveMatchesMode (s.chan (otherChannel c)) ∧
      (m ≠ .disabled ∧ m ≠ .maxPower)

/-- The invariant of CORE (R37): what holds in every state a run reaches. The first three parts hold after a fatal fault too. -/
structure CoreInv (s : State) : Prop where
  duties : DutiesOrdered s.ch1 ∧ DutiesOrdered s.ch2
  noMaxPower : s.ch1.mode ≠ .maxPower ∧ s.ch2.mode ≠ .maxPower
  /-- R35: `valid` equals `core.halted`; R311: a halt abandons the held command. -/
  fault : s.fault.valid = s.halted ∧ (s.halted = true → s.held = none)
  boundary : s.halted = false → Boundary s

/-- R26, R28, R29: a channel's constant registers hold its construction parameters. -/
abbrev HoldsParameters (p : ChanConstruction) (ch : Chan) : Prop :=
  (ch.vsenseGain = p.vsenseGain ∧ ch.isenseGain = p.isenseGain) ∧ (ch.vGains = p.vGains ∧ ch.iGains = p.iGains) ∧
    (ch.ilimit = p.ilimitInit ∧ ch.vlimit = p.vlimitInit)

/-- R26, R28, R29 for both channels. -/
abbrev HoldsConstruction (s : State) : Prop :=
  HoldsParameters s.params.ch1 s.ch1 ∧ HoldsParameters s.params.ch2 s.ch2

/-- R21, R27: each setpoint is at most the limit it is checked against. -/
abbrev SetpointsWithinLimits (s : State) : Prop :=
  ∀ c, (s.chan c).vsetpoint.toNat ≤ (vsetpointLimit s.params.limitSelect (s.chan c)).toNat ∧
    (s.chan c).isetpoint.toNat ≤ (isetpointLimit s.params.limitSelect (s.chan c)).toNat

/-- R349: with both periods at most 0xFFFF no tick count overflows. -/
abbrev PeriodsFit (s : State) : Prop :=
  s.ch1.period.toNat ≤ 0xFFFF ∧ s.ch2.period.toNat ≤ 0xFFFF

/-- What a run of CORE shows (R6). -/
structure Observed where
  responses : List Response
  driverOps : List DriverOp
  halt : Bool
  fault : FaultRecord
  deriving DecidableEq, Repr

/-- What a run of CORE shows (R6). -/
def observe (s : State) : Observed := ⟨s.responses, s.driverOps, s.halted, s.fault⟩

/-- CORE has not entered the fatal fault (R34). -/
abbrev Running (s : State) : Prop := s.halted = false

/-- CORE would accept a command now (R52, R311). -/
abbrev AcceptsCommand (s : State) : Prop := s.halted = false ∧ s.held = none

end Sys2Proof.Machine
end

