-- ==== Sys2Proof/Certificates/Slice0/Obligations.lean ====
section
/-!
DEFINITION. Certificates/Slice0/Obligations.lean: the statements about the model, each a Prop named for what it says, and the
words they are written in: command words by arithmetic (30_encoding.md R70 to R72), what a torn-down channel leaves
(R101, R204, R223, R227), the ends of CONFIGURE (R222, R226), and one feedback tick as a relation (R132 to R151).
-/

namespace Sys2Proof.Machine

/-! ### The words of the statements -/

/-- The number H * 2^64 + A * 2^32 + B with H = OPC | (c - 1) << 8 (R70 to R72, R87). -/
def commandWord (opc : Nat) (c : Channel) (a b : Word) : BitVec 96 :=
  BitVec.ofNat 96 ((opc + 256 * (channelNumber c - 1)) * 2 ^ 64 + a.toNat * 2 ^ 32 + b.toNat)

/-- An input that is a command. -/
def isCommand : Input → Bool
  | .command _ => true
  | .sample _ => false
  | .ready _ => false
  | .reset => false
  | .resetDuring _ => false

/-- An input that is a reset. -/
def isReset : Input → Bool
  | .command _ => false
  | .sample _ => false
  | .ready _ => false
  | .reset => true
  | .resetDuring _ => true

/-- Nothing but one more response. -/
def afterResponse (st : Status) (d : Word) (s : State) : State :=
  { s with responses := s.responses ++ [⟨st, d⟩] }

/-- Nothing but more driver operations. -/
def afterOps (ops : List DriverOp) (s : State) : State :=
  { s with driverOps := s.driverOps ++ ops }

/-- What leaves channel 1's outputs down (R223), what leaves channel 2's (R227). -/
def teardownOps (src : Source) : Channel → List DriverOp
  | .ch1 =>
    [.disableOutput .ta .ua, .disableOutput .tb .ub, .stop .ta, .stop .tb, .clkOff .ta, .clkOff .tb, .vdivOff]
  | .ch2 =>
    [.disableOutput .tc (if src = .battery then .ubat else .uin), .stop .tc, .clkOff .tc]

/-- The mode forced to Disabled, DISABLE(c), then the response (st, 0): with the other channel active the "on" branch runs and
the command is held; otherwise the "off" branch runs and the response is given (R101, R105, R203, R204). -/
def tornDown (c : Channel) (st : Status) (s : State) : State :=
  let t := modChan c (fun ch => { ch with mode := .disabled, active := false }) s
  if (s.chan (otherChannel c)).active then
    { afterOps (teardownOps s.source c ++ [.adcOscOn]) t with held := some ⟨.osc, .respond st⟩ }
  else
    afterResponse st 0#32
      { afterOps (teardownOps s.source c ++ [.adcPowerOff, .clkOff .tt, .adcOscOff]) t with adcOn := false }

/-- The halted state: the record of an overflow of `n` ticks, HALT, no held command, everything else as it stood (R310). -/
def haltedBy (c : Channel) (t : Timer) (u : OcUnit) (n : Nat) (s : State) : State :=
  { s with fault := ⟨true, some c, some t, some u, BitVec.ofNat 49 n⟩, halted := true, held := none }

/-- What follows CONFIGURE(c) in a SET_MODE towards mode m (R101, R104, R105). -/
def afterConfigure (c : Channel) (m : Mode) (s : State) : State :=
  match configure c s with
  | .ok t => afterResponse .ok 0#32 (modChan c (fun ch => { ch with mode := m }) t)
  | .fail t => tornDown c .configFault t
  | .raised t => t

/-- CFG_OUTPUT emitted and its acknowledge drawn (R86, R173). -/
def afterCfgOutput (t : Timer) (u : OcUnit) (p : Word) (pol : Polarity) (n : Nat) (s : State) : Bool × State :=
  drawAck (afterOps [.cfgOutput t u p pol (BitVec.ofNat 16 n)] s)

/-- The end of CONFIGURE(2) (R226, R173): overflow first, then the acknowledge. -/
def Configure2Ends (s : State) (e : Configured) : Prop :=
  let n := s.ch2.duty1.toNat * s.ch2.period.toNat / 65536
  let u : OcUnit := if s.source = .battery then .ubat else .uin
  let r := afterCfgOutput .tc u s.ch2.period s.params.pol2 n s
  (0xFFFF < n → e = .raised (haltedBy .ch2 .tc u n s)) ∧
    (n ≤ 0xFFFF → r.1 = false → e = .fail r.2) ∧
      (n ≤ 0xFFFF → r.1 = true → e = .ok (afterOps [.enableOutput .tc u, .start .tc] r.2))

/-- The end of CONFIGURE(1) (R222, R176, R177, R306): duty1's overflow, duty2's overflow, the phase check, timer A's acknowledge,
timer B's acknowledge, in this order. -/
def Configure1Ends (s : State) (e : Configured) : Prop :=
  let p := s.ch1.period
  let na := s.ch1.duty1.toNat * p.toNat / 65536
  let nb := s.ch1.duty2.toNat * p.toNat / 65536
  let ra := afterCfgOutput .ta .ua p s.params.polA na s
  let rb := afterCfgOutput .tb .ub p s.params.polB nb (afterOps [.enableOutput .ta .ua, .start .ta] ra.2)
  let fits := na ≤ 0xFFFF ∧ nb ≤ 0xFFFF
  let phased := s.params.phaseOffset.toNat < p.toNat
  (0xFFFF < na → e = .raised (haltedBy .ch1 .ta .ua na s)) ∧
    (na ≤ 0xFFFF → 0xFFFF < nb → e = .raised (haltedBy .ch1 .tb .ub nb s)) ∧
      (fits → ¬ phased → e = .fail s) ∧
        (fits → phased → ra.1 = false → e = .fail ra.2) ∧
          (fits → phased → ra.1 = true → rb.1 = false → e = .fail rb.2) ∧
            (fits → phased → ra.1 = true → rb.1 = true →
              e = .ok (afterOps
                [.enableOutput .tb .ub, .start .tb, .setMasterMode .ta, .setSlaveTrigger .tb .ta,
                  .primePeriod .ta (BitVec.ofNat 32 (p.toNat - s.params.phaseOffset.toNat)) p] rb.2))

/-- R151's table with R146's deltas and R148's min, row by row: the working duties of one MIX. -/
def MixRow (err : Int) (g : GainPair) (d1 d2 : Int) (w : Int × Int) : Prop :=
  let delta1 := (err * g.g1.toInt).fdiv 65536
  let delta2 := (err * g.g2.toInt).fdiv 65536
  (err < 0 → 63536 < d1 → 63536 < d2 → w = (32768, 32768)) ∧
    (err < 0 → 63536 < d1 → d2 ≤ 63536 → w = (d1, min (d2 - delta2) d1)) ∧
      (0 < err → d1 < 2000 → w = (d1, min (d2 - delta2) d1)) ∧
        (err < 0 → d1 ≤ 63536 → 2000 < d2 → w = (d1, min (d2 + delta2) d1)) ∧
          (err < 0 → d1 ≤ 63536 → d2 ≤ 2000 → w = (d1 - delta1, min d2 (d1 - delta1))) ∧
            (0 < err → 2000 ≤ d1 → w = (d1 - delta1, min d2 (d1 - delta1))) ∧
              (err = 0 → w = (d1, min d2 d1))

/-- The working duties of a tick in a feedback mode: halved on a limit trip, else mixed (R134, R135, R137, R138). -/
def FeedbackWorking (ch : Chan) (w : Int × Int) : Prop :=
  (ch.mode = .voltageFeedback ∧ ch.ilimit.toNat < ch.isense.toNat ∧ w = ((ch.duty1.toNat : Int) / 2, (ch.duty2.toNat : Int) / 2)) ∨
    (ch.mode = .currentFeedback ∧ ch.vlimit.toNat < ch.vsense.toNat ∧ w = ((ch.duty1.toNat : Int) / 2, (ch.duty2.toNat : Int) / 2)) ∨
      (ch.mode = .voltageFeedback ∧ ch.isense.toNat ≤ ch.ilimit.toNat ∧
        MixRow ((ch.vsense.toNat : Int) - ch.vsetpoint.toNat) ch.vGains ch.duty1.toNat ch.duty2.toNat w) ∨
        (ch.mode = .currentFeedback ∧ ch.vsense.toNat ≤ ch.vlimit.toNat ∧
          MixRow ((ch.isense.toNat : Int) - ch.isetpoint.toNat) ch.iGains ch.duty1.toNat ch.duty2.toNat w)

/-- The modes in which a tick does nothing to a channel (R133). -/
def idleMode (m : Mode) : Prop := m = .disabled ∨ m = .constantDuty ∨ m = .maxPower

/-- clamp(d, 0, 0xFFFF) (R147): Int.toNat is 0 below 0. -/
def clamped (d : Int) : Word := BitVec.ofNat 32 (min d.toNat 0xFFFF)

/-- The channel's duties after a tick whose working values are w (R139, R147). -/
def withTick (c : Channel) (w : Int × Int) (s : State) : State :=
  modChan c (fun ch => { ch with duty1 := clamped w.1, duty2 := clamped w.2 }) s

/-- A compare value for one output. -/
structure Compare where
  timer : Timer
  unit : OcUnit
  count : Nat

/-- The compare values UPDATE_DUTY(c) pushes, in order (R224, R228, R229). -/
def comparesOf (c : Channel) (s : State) : List Compare :=
  let n (d : Word) := d.toNat * (s.chan c).period.toNat / 65536
  match c with
  | .ch1 => [⟨.ta, .ua, n s.ch1.duty1⟩, ⟨.tb, .ub, n s.ch1.duty2⟩]
  | .ch2 => [⟨.tc, if s.source = .battery then .ubat else .uin, n s.ch2.duty1⟩]

/-- The operation that pushes a compare value (R171). -/
def compareOp (x : Compare) : DriverOp := .setCompare x.timer x.unit (BitVec.ofNat 16 x.count)

/-- FEEDBACK(c) takes s to t and goes on: nothing in an idle mode; otherwise the duties, then every compare value (R132, R139). -/
def FeedbackTick (c : Channel) (s t : State) : Prop :=
  (idleMode (s.chan c).mode ∧ t = s) ∨
    ∃ w, FeedbackWorking (s.chan c) w ∧ (∀ x ∈ comparesOf c (withTick c w s), x.count ≤ 0xFFFF) ∧
      t = afterOps ((comparesOf c (withTick c w s)).map compareOp) (withTick c w s)

/-- FEEDBACK(c) raises Fatal in s and leaves t: the duties and the compare values before the overflowing one stay (R172, R310). -/
def FeedbackFatal (c : Channel) (s t : State) : Prop :=
  ∃ w, FeedbackWorking (s.chan c) w ∧
    ∃ before x after, comparesOf c (withTick c w s) = before ++ x :: after ∧ (∀ y ∈ before, y.count ≤ 0xFFFF) ∧
      0xFFFF < x.count ∧
        t = haltedBy c x.timer x.unit x.count (afterOps (before.map compareOp) (withTick c w s))

/-- The four sense registers written, nothing else (R130). -/
def withSenses (v1 i1 v2 i2 : Codepoint) (s : State) : State :=
  { s with ch1 := { s.ch1 with vsense := v1, isense := i1 }, ch2 := { s.ch2 with vsense := v2, isense := i2 } }

/-- From s to t the channel has come to Disabled and not active, its period and setpoints being what they were (R105). -/
def downWithSettingsOf (c : Channel) (s t : State) : Prop :=
  ((t.chan c).mode = .disabled ∧ (t.chan c).active = false) ∧ (t.chan c).period = (s.chan c).period ∧
    (t.chan c).vsetpoint = (s.chan c).vsetpoint ∧ (t.chan c).isetpoint = (s.chan c).isetpoint

/-- The channel a command addresses (R72); SET_CH2_SOURCE addresses channel 2. -/
def addressedChannel : Instr → Option Channel
  | .setMode c _ => some c
  | .getMode c => some c
  | .setDuty c _ _ => some c
  | .getDuty1 c => some c
  | .getDuty2 c => some c
  | .setVsetpoint c _ => some c
  | .setIsetpoint c _ => some c
  | .getVsetpoint c => some c
  | .getIsetpoint c => some c
  | .getVsense c => some c
  | .getIsense c => some c
  | .setCh2Source _ => some .ch2
  | .setPeriod c _ => some c
  | .getPeriod c => some c
  | .sample _ _ _ _ => none
  | .reserved _ _ _ => none

/-- The one operation that returns anything (R86). -/
def isCfgOutput : DriverOp → Bool
  | .cfgOutput _ _ _ _ _ => true
  | _ => false

/-- A driver operation without its polarity. -/
def withoutPolarity : DriverOp → DriverOp
  | .cfgOutput t u p _ n => .cfgOutput t u p .risingFirst n
  | op => op

/-- A state in which nothing tells the polarities (R174). -/
def erasePolarity (s : State) : State :=
  { s with
    params := { s.params with polA := .risingFirst, polB := .risingFirst, pol2 := .risingFirst }
    driverOps := s.driverOps.map withoutPolarity }

/-- The registers of a channel no transaction writes (R26, R28, R29). -/
def constantsOf (ch : Chan) : (Word × Word) × (Codepoint × Codepoint) × (GainPair × GainPair) :=
  ((ch.vsenseGain, ch.isenseGain), (ch.ilimit, ch.vlimit), (ch.vGains, ch.iGains))

end Sys2Proof.Machine

open Sys2Proof Sys2Proof.Machine

/-! ### Encoding -/

/-- R70 to R77, R82, R87: no operand of a well-formed instruction is lost between encoding and decoding. -/
def Obligations.DecodeOfEncodeIsTheInstruction : Prop :=
  ∀ i : Instr, i.wellFormed = true → decode (encode i) = i

/-- R70 to R76: for every operand, the number OPC + 256 CH in H and the operands in A and B are the row's command; the words a
command does not use may hold anything (R73). -/
def Obligations.CommandWordsDecodeToTheirTableRow : Prop :=
  ∀ (c : Channel) (a b : Word),
    (decodeCommand (commandWord 0x01 c 0#32 b) = .setMode c .disabled ∧
      decodeCommand (commandWord 0x01 c 1#32 b) = .setMode c .constantDuty ∧
      decodeCommand (commandWord 0x01 c 2#32 b) = .setMode c .currentFeedback ∧
      decodeCommand (commandWord 0x01 c 3#32 b) = .setMode c .voltageFeedback ∧
      decodeCommand (commandWord 0x01 c 4#32 b) = .setMode c .maxPower) ∧
    decodeCommand (commandWord 0x02 c a b) = .getMode c ∧
    decodeCommand (commandWord 0x03 c a b) = .setDuty c a b ∧
    decodeCommand (commandWord 0x04 c a b) = .getDuty1 c ∧
    decodeCommand (commandWord 0x05 c a b) = .getDuty2 c ∧
    decodeCommand (commandWord 0x06 c a b) = .setVsetpoint c a ∧
    decodeCommand (commandWord 0x07 c a b) = .setIsetpoint c a ∧
    decodeCommand (commandWord 0x08 c a b) = .getVsetpoint c ∧
    decodeCommand (commandWord 0x09 c a b) = .getIsetpoint c ∧
    decodeCommand (commandWord 0x0A c a b) = .getVsense c ∧
    decodeCommand (commandWord 0x0B c a b) = .getIsense c ∧
    (decodeCommand (commandWord 0x0C .ch2 0#32 b) = .setCh2Source .battery ∧
      decodeCommand (commandWord 0x0C .ch2 1#32 b) = .setCh2Source .input) ∧
    decodeCommand (commandWord 0x0D c a b) = .setPeriod c a ∧
    decodeCommand (commandWord 0x0E c a b) = .getPeriod c

/-- R77: exactly the words of the five conditions are ILLEGAL, and an ILLEGAL command changes nothing but for its response. -/
def Obligations.IllegalWordsAreThoseOfTheFiveConditions : Prop :=
  (∀ w : BitVec 96,
    (∃ h a b, decodeCommand w = .reserved h a b) ↔
      ((w.extractLsb' 64 8).toNat = 0 ∨ 0x0F ≤ (w.extractLsb' 64 8).toNat) ∨
        (w.extractLsb' 73 23).toNat ≠ 0 ∨
        ((w.extractLsb' 64 8).toNat = 0x0C ∧ w.getLsbD 72 = false) ∨
        ((w.extractLsb' 64 8).toNat = 0x01 ∧ 4 < (w.extractLsb' 32 32).toNat) ∨
        ((w.extractLsb' 64 8).toNat = 0x0C ∧ 1 < (w.extractLsb' 32 32).toNat)) ∧
    ∀ h a b s, exec (.reserved h a b) s = .next (afterResponse .illegal 0#32 s)

/-- R70, R77, R83: what the decoder answers is well-formed, whatever word it is given. -/
def Obligations.DecodedInstructionsAreWellFormed : Prop :=
  ∀ p : PortWord, (decode p).wellFormed = true

/-- R82, R83: the other direction for sample words, where no bit is ignored: encoding what a sample word decodes to gives the word. -/
def Obligations.EncodeOfDecodedSampleIsTheWord : Prop :=
  ∀ w : BitVec 64, encode (decode (.sample w)) = .sample w

/-- A few words written out from R71, R74 and R82: one of each family decodes to the instruction it stands for (a sanity check). -/
def Obligations.WordsOfEachFamilyDecode : Prop :=
  decodeCommand 0x000000010000000300000000#96 = .setMode .ch1 .voltageFeedback ∧
    decodeCommand 0x000001030000800000002000#96 = .setDuty .ch2 0x8000#32 0x2000#32 ∧
    decodeCommand 0x0000000600019C9300000000#96 = .setVsetpoint .ch1 105619#32 ∧
    decodeCommand 0x0000010C0000000100000000#96 = .setCh2Source .input ∧
    decodeCommand 0x0000010E0000000000000000#96 = .getPeriod .ch2 ∧
    decodeSample 0x003207D000640708#64 = .sample 1800#16 100#16 2000#16 50#16 ∧
    decodeCommand 0x800000020000000000000000#96 = .reserved 0x80000002#32 0#32 0#32

/-- R53: in the default order, little-endian, byte k of a serialised command, sample or response word is its bits [8k+7:8k]; in either
byte order a port word is read back as the word that was sent. That the other order gives the same bytes backwards is the
model's choice (log 15). -/
def Obligations.SerialisedWordsDecodeAsDelivered : Prop :=
  (∀ (w : BitVec 96) (x : BitVec 64) (st : Status) (d : Word) (k : Nat),
    (k < 12 → (portWordBytes (.command w))[k]? = some (w.extractLsb' (8 * k) 8)) ∧
      (k < 8 → (portWordBytes (.sample x))[k]? = some (x.extractLsb' (8 * k) 8)) ∧
        (k < 5 → (responseBytes st d)[k]? = some ((responseWord st d).extractLsb' (8 * k) 8))) ∧
  (∀ (p : PortWord) (st : Status) (d : Word),
    (portWordBytes p = portWordBytes p .little ∧ portWordBytes p .big = (portWordBytes p .little).reverse) ∧
      responseBytes st d = responseBytes st d .little ∧ responseBytes st d .big = (responseBytes st d .little).reverse) ∧
  ∀ (o : ByteOrder) (w : BitVec 96) (x : BitVec 64),
    ((portWordBytes (.command w) o).length = 12 ∧ (portWordBytes (.sample x) o).length = 8) ∧
      decodeCommandBytes (portWordBytes (.command w) o) o = .ok (decodeCommand w) ∧
        decodeSampleBytes (portWordBytes (.sample x) o) o = .ok (decodeSample x)

/-! ### The step -/

/-- R51, R52: a command at the head of the inputs, CORE being neither halted nor busy, runs as the instruction it decodes to, the
input having been taken; nothing else is added around exec. That inputs wait in one list is the model's choice (log 1). -/
def Obligations.StepRunsTheAcceptedCommand : Prop :=
  ∀ (s : State) (w : BitVec 96) (rest : List Input) (i : Instr), AcceptsCommand s → s.inbox = .command w :: rest →
    i.wellFormed = true → decodeCommand w = i → step s = exec i { s with inbox := rest }

/-- R51, R52, R307: the first sample word runs as the SAMPLE it decodes to, also while a command is held, waiting commands staying
where they are. That inputs wait in one list is the model's choice (log 1). -/
def Obligations.StepRunsTheDeliveredSample : Prop :=
  ∀ (s : State) (w : BitVec 64) (before rest : List Input), Running s → s.inbox = before ++ .sample w :: rest →
    (∀ x ∈ before, isCommand x = true) → (before = [] ∨ s.held.isSome = true) →
      step s = exec (decodeSample w) { s with inbox := before ++ rest }

/-- R52, R205, R311, R348: while a command is held or CORE is halted, no step takes a command; with nothing but commands waiting
CORE stays as it is: a hang, not a halt. That a command not accepted stays in the list is the model's choice (log 1). -/
def Obligations.CommandsWaitWhileHeldOrHalted : Prop :=
  ∀ s : State, (s.held.isSome = true ∨ s.halted = true) →
    (∀ t, step s = .next t → t.inbox.filter isCommand = s.inbox.filter isCommand) ∧
      ((∀ x ∈ s.inbox, isCommand x = true) → step s = .next s)

/-- R311: in the halted state nothing but reset does anything: whatever else arrives, every register, the outputs and the fault
record stay as they are. That a dropped input leaves the list is the model's choice (log 5). -/
def Obligations.HaltedCoreIgnoresAllButReset : Prop :=
  ∀ s : State, s.halted = true → (∀ x ∈ s.inbox, isReset x = false) → ∃ rest, step s = .next { s with inbox := rest }

/-- R310, R311: fatal entry writes the exact tick count and the names, asserts HALT, abandons a held command, and changes
nothing else; the count fits the record because a tick count is below 2^48. -/
def Obligations.FatalEntryRecordsTheOverflow : Prop :=
  ∀ (c : Channel) (t : Timer) (u : OcUnit) (d p : Word) (s : State),
    raiseFatal c t u (ticks d p) s = haltedBy c t u (d.toNat * p.toNat / 65536) s ∧
      (raiseFatal c t u (ticks d p) s).fault.ticks.toNat = d.toNat * p.toNat / 65536

/-- R340, R341: reset abandons what is held, gives every field the reset value of R41 for the same parameters, clears the fault record
and HALT, and neither responds nor emits. That the ports' contents stay is the model's choice (log 3, and log 6 for the
acknowledges), and so is the way the cleared record writes its identifiers (log 10). -/
def Obligations.ResetInputRestoresTheResetState : Prop :=
  ∀ (s : State) (before rest : List Input), s.inbox = before ++ .reset :: rest → (∀ x ∈ before, isCommand x = true) →
    (before = [] ∨ s.held.isSome = true ∨ s.halted = true) →
      step s = .next { State.construct s.params with
        responses := s.responses, driverOps := s.driverOps, inbox := before ++ rest, acks := s.acks, ackDraws := s.ackDraws,
        held := none, halted := false, fault := ⟨false, none, none, none, 0#49⟩ }

/-- R340, R341: reset asserted during a transaction (a command's, a SAMPLE's, or the part of a held command that a ready indication lets
go on), once `n` of its operations are out: what a step would have emitted without the reset is cut to its first n operations,
there is no response, and every field is reset; where no transaction is in progress it is a plain reset. The model's choices:
that the input list says where the reset cuts, a reset of a reset being one reset (log 1, log 2), that the waiting inputs stay
(log 3), and where the acknowledges that are used up came from (log 6). -/
def Obligations.ResetDuringATransactionLeavesAPrefixOfItsTrace : Prop :=
  ∀ (s : State) (n : Nat) (box : List Input), s.inbox = .resetDuring n :: box →
    ((∀ m rest, nextInput { s with inbox := box } ≠ some (.resetDuring m, rest)) →
      ∃ t ops later, step { s with inbox := box } = .next t ∧ t.driverOps = s.driverOps ++ ops ++ later ∧
        (ops.length = n ∨ (ops.length ≤ n ∧ later = [])) ∧
          let k := ops.countP isCfgOutput
          step s = .next { State.construct s.params with
            responses := s.responses, driverOps := s.driverOps ++ ops, inbox := t.inbox,
            acks := s.acks.drop k, ackDraws := s.ackDraws + (k - s.acks.length) }) ∧
    (∀ m rest, nextInput { s with inbox := box } = some (.resetDuring m, rest) →
      step s = .next { State.construct s.params with
        responses := s.responses, driverOps := s.driverOps, inbox := rest, acks := s.acks, ackDraws := s.ackDraws })

/-- R343, whatever the construction parameters: both channels Disabled, duties, setpoints and senses 0, the period PERIOD_RESET,
adc_on 0, no activation, source BATTERY; CORE is neither halted nor busy, and the sample port is live: a step at a sample word
takes it and only writes the sense fields. -/
def Obligations.ResetStateOfEveryConstruction : Prop :=
  ∀ (p : Construction) (w : BitVec 64) (rest : List Input),
    let s := State.construct p
    (∀ c, (s.chan c).mode = .disabled ∧ (s.chan c).duty1 = 0#32 ∧ (s.chan c).duty2 = 0#32 ∧ (s.chan c).vsetpoint = 0#16 ∧
      (s.chan c).isetpoint = 0#16 ∧ (s.chan c).vsense = 0#16 ∧ (s.chan c).isense = 0#16 ∧ (s.chan c).active = false) ∧
    (s.ch1.period = p.ch1.periodReset ∧ s.ch2.period = p.ch2.periodReset) ∧ s.adcOn = false ∧ s.source = .battery ∧
    (s.halted = false ∧ s.held = none ∧ s.fault.valid = false ∧ s.fault.ticks = 0#49) ∧
    step { s with inbox := .sample w :: rest } =
      .next { withSenses (w.extractLsb' 0 16) (w.extractLsb' 16 16) (w.extractLsb' 32 16) (w.extractLsb' 48 16) s with inbox := rest }

/-! ### GET commands -/

/-- R106, R251, R252, R263: the four register reads answer (OK, the register) and change nothing. -/
def Obligations.RegisterReadsRespondWithTheRegister : Prop :=
  ∀ (c : Channel) (s : State),
    (∃ d : Word, d.toNat = (match (s.chan c).mode with
        | .disabled => 0 | .constantDuty => 1 | .currentFeedback => 2 | .voltageFeedback => 3 | .maxPower => 4) ∧
      exec (.getMode c) s = .next (afterResponse .ok d s)) ∧
    exec (.getDuty1 c) s = .next (afterResponse .ok (s.chan c).duty1 s) ∧
    exec (.getDuty2 c) s = .next (afterResponse .ok (s.chan c).duty2 s) ∧
    exec (.getPeriod c) s = .next (afterResponse .ok (s.chan c).period s)

/-- R254, R258 to R261: the physical reads answer floor(r * 2^16 / g), which fits the data word, for the sense or setpoint register
and its gain, and change nothing. -/
def Obligations.PhysicalReadsRespondWithTheInverseConversion : Prop :=
  ∀ (c : Channel) (s : State), (s.chan c).vsenseGain ≠ 0#32 → (s.chan c).isenseGain ≠ 0#32 →
    ∃ vset iset vsen isen : Word,
      (vset.toNat = (s.chan c).vsetpoint.toNat * 65536 / (s.chan c).vsenseGain.toNat ∧
        exec (.getVsetpoint c) s = .next (afterResponse .ok vset s)) ∧
      (iset.toNat = (s.chan c).isetpoint.toNat * 65536 / (s.chan c).isenseGain.toNat ∧
        exec (.getIsetpoint c) s = .next (afterResponse .ok iset s)) ∧
      (vsen.toNat = (s.chan c).vsense.toNat * 65536 / (s.chan c).vsenseGain.toNat ∧
        exec (.getVsense c) s = .next (afterResponse .ok vsen s)) ∧
      (isen.toNat = (s.chan c).isense.toNat * 65536 / (s.chan c).isenseGain.toNat ∧
        exec (.getIsense c) s = .next (afterResponse .ok isen s))

/-! ### SET commands -/

/-- R253, R255, R256: the raw value, computed without losing a bit, is checked against the selected limit, and stored if it is not
above it; no other register changes. -/
def Obligations.SetVsetpointStoresOrRejects : Prop :=
  ∀ (c : Channel) (v : Word) (s : State),
    let ch := s.chan c
    let r := v.toNat * ch.vsenseGain.toNat / 65536
    let lim := if s.params.limitSelect = .opposing then ch.ilimit else ch.vlimit
    (lim.toNat < r → exec (.setVsetpoint c v) s = .next (afterResponse .rejected 0#32 s)) ∧
      (r ≤ lim.toNat → ∃ x : Codepoint, x.toNat = r ∧
        exec (.setVsetpoint c v) s = .next (afterResponse .ok 0#32 (modChan c (fun ch => { ch with vsetpoint := x }) s)))

/-- R253, R255, R257: the same for the current setpoint. -/
def Obligations.SetIsetpointStoresOrRejects : Prop :=
  ∀ (c : Channel) (v : Word) (s : State),
    let ch := s.chan c
    let r := v.toNat * ch.isenseGain.toNat / 65536
    let lim := if s.params.limitSelect = .opposing then ch.vlimit else ch.ilimit
    (lim.toNat < r → exec (.setIsetpoint c v) s = .next (afterResponse .rejected 0#32 s)) ∧
      (r ≤ lim.toNat → ∃ x : Codepoint, x.toNat = r ∧
        exec (.setIsetpoint c v) s = .next (afterResponse .ok 0#32 (modChan c (fun ch => { ch with isetpoint := x }) s)))

/-- R264: after SET_VSETPOINT accepts v, GET_VSETPOINT answers a w with w <= v and v - w <= ceil(2^16 / g); the same for the current
setpoint. -/
def Obligations.SetpointRoundTripStaysWithinOneCodepoint : Prop :=
  ∀ (c : Channel) (v : Word) (s t u : State) (w : Word),
    (∀ g : Nat, g = (s.chan c).vsenseGain.toNat → 0 < g →
      exec (.setVsetpoint c v) s = .next t → t.responses = s.responses ++ [⟨.ok, 0#32⟩] →
      exec (.getVsetpoint c) t = .next u → u.responses = t.responses ++ [⟨.ok, w⟩] →
        w.toNat ≤ v.toNat ∧ v.toNat - w.toNat ≤ (65536 + (g - 1)) / g) ∧
    (∀ g : Nat, g = (s.chan c).isenseGain.toNat → 0 < g →
      exec (.setIsetpoint c v) s = .next t → t.responses = s.responses ++ [⟨.ok, 0#32⟩] →
      exec (.getIsetpoint c) t = .next u → u.responses = t.responses ++ [⟨.ok, w⟩] →
        w.toNat ≤ v.toNat ∧ v.toNat - w.toNat ≤ (65536 + (g - 1)) / g)

/-- R262: the period is written while the channel is Disabled, whatever its value, and the command is rejected otherwise. -/
def Obligations.SetPeriodOnlyWhileDisabled : Prop :=
  ∀ (c : Channel) (p : Word) (s : State),
    ((s.chan c).mode = .disabled →
      exec (.setPeriod c p) s = .next (afterResponse .ok 0#32 (modChan c (fun ch => { ch with period := p }) s))) ∧
    ((s.chan c).mode ≠ .disabled → exec (.setPeriod c p) s = .next (afterResponse .rejected 0#32 s))

/-- R230: the source is written while channel 2 is Disabled, and the command is rejected otherwise; no driver operation. -/
def Obligations.SetCh2SourceOnlyWhileDisabled : Prop :=
  ∀ (src : Source) (s : State),
    (s.ch2.mode = .disabled → exec (.setCh2Source src) s = .next (afterResponse .ok 0#32 { s with source := src })) ∧
      (s.ch2.mode ≠ .disabled → exec (.setCh2Source src) s = .next (afterResponse .rejected 0#32 s))

/-- R250, R302: SET_DUTY is rejected, changing nothing, in a feedback mode, or when d2 > d1, or when d1 > 0x10000. -/
def Obligations.SetDutyRejections : Prop :=
  ∀ (c : Channel) (d1 d2 : Word) (s : State),
    ((s.chan c).mode ≠ .disabled ∧ (s.chan c).mode ≠ .constantDuty) ∨ d1.toNat < d2.toNat ∨ 0x10000 < d1.toNat →
      exec (.setDuty c d1 d2) s = .next (afterResponse .rejected 0#32 s)

/-- R250: accepted while Disabled, the two duties are stored and nothing is emitted. -/
def Obligations.SetDutyStoresWhileDisabled : Prop :=
  ∀ (c : Channel) (d1 d2 : Word) (s : State), (s.chan c).mode = .disabled → d2.toNat ≤ d1.toNat → d1.toNat ≤ 0x10000 →
    exec (.setDuty c d1 d2) s =
      .next (afterResponse .ok 0#32 (modChan c (fun ch => { ch with duty1 := d1, duty2 := d2 }) s))

/-- R250, R303: accepted in ConstantDuty, the two duties are stored and CONFIGURE runs on them: OK, or the channel torn down with
CONFIG_FAULT, or Fatal without a response. -/
def Obligations.SetDutyReconfiguresInConstantDuty : Prop :=
  ∀ (c : Channel) (d1 d2 : Word) (s : State), (s.chan c).mode = .constantDuty → d2.toNat ≤ d1.toNat → d1.toNat ≤ 0x10000 →
    exec (.setDuty c d1 d2) s =
      .next (match configure c (modChan c (fun ch => { ch with duty1 := d1, duty2 := d2 }) s) with
        | .ok t => afterResponse .ok 0#32 t
        | .fail t => tornDown c .configFault t
        | .raised t => t)

/-! ### SET_MODE -/

/-- R103: MaxPower is refused with REJECTED and nothing changes. -/
def Obligations.SetModeMaxPowerIsRejected : Prop :=
  ∀ (c : Channel) (s : State), exec (.setMode c .maxPower) s = .next (afterResponse .rejected 0#32 s)

/-- R101, R104, R203, R204, R223, R227: SET_MODE to Disabled writes the mode, tears the channel down and drops its reference, from
every mode, Disabled included; with the other channel active it is held before its response. -/
def Obligations.SetModeDisabledTearsDown : Prop :=
  ∀ (c : Channel) (s : State), exec (.setMode c .disabled) s = .next (tornDown c .ok s)

/-- R101, R104, R202, R204, R221, R225: SET_MODE out of Disabled enables the channel, takes its reference and is held for READY(OSC),
the mode not yet written. -/
def Obligations.SetModeFromDisabledEnablesAndHolds : Prop :=
  ∀ (c : Channel) (m : Mode) (s : State), (s.chan c).mode = .disabled → m ≠ .disabled → m ≠ .maxPower →
    exec (.setMode c m) s =
      .next { afterOps ((match c with
                | .ch1 => [.vdivOn, .clkOn .ta, .clkOn .tb]
                | .ch2 => [.clkOn .tc]) ++ [.adcOscOn])
              (modChan c (fun ch => { ch with active := true }) s) with held := some ⟨.osc, .configure c m⟩ }

/-- R101, R102, R105: SET_MODE between two non-Disabled modes runs CONFIGURE only, and what follows it. -/
def Obligations.SetModeFromRunningReconfigures : Prop :=
  ∀ (c : Channel) (m : Mode) (s : State), (s.chan c).mode ≠ .disabled → m ≠ .disabled → m ≠ .maxPower →
    exec (.setMode c m) s = .next (afterConfigure c m s)

/-- R222, R226, R173, R176, R177, R306: CONFIGURE checks the tick counts, then the phase, then the acknowledges, and emits exactly
these operations. Where the acknowledges come from is the model's choice (log 6). -/
def Obligations.ConfigureFollowsItsRule : Prop :=
  ∀ s : State, Configure1Ends s (configure .ch1 s) ∧ Configure2Ends s (configure .ch2 s)

/-- R204, R205: READY(OSC) lets a command held for it emit ADC_POWER_ON and hold for READY(ADC); adc_on is not written yet (R209). That inputs wait in one list is the model's choice (log 1). -/
def Obligations.ReadyOscPowersTheAdc : Prop :=
  ∀ (s : State) (k : Resumption) (before rest : List Input), Running s → s.held = some ⟨.osc, k⟩ →
    s.inbox = before ++ .ready .osc :: rest → (∀ x ∈ before, isCommand x = true) →
      step s = .next { afterOps [.adcPowerOn] s with inbox := before ++ rest, held := some ⟨.adc, k⟩ }

/-- R204 to R206, R209, R36: READY(ADC) lets a command held for it finish the "on" branch and then its own rest: the response it owes,
or SET_MODE's CONFIGURE and what follows. That inputs wait in one list is the model's choice (log 1). -/
def Obligations.ReadyAdcFinishesTheSequence : Prop :=
  ∀ (s : State) (k : Resumption) (before rest : List Input), Running s → s.held = some ⟨.adc, k⟩ →
    s.inbox = before ++ .ready .adc :: rest → (∀ x ∈ before, isCommand x = true) →
      let t := { afterOps [.adcSeq [.ch1V, .ch1I, .ch2V, .ch2I], .adcScanOn, .adcIrqOn, .clkOn .tt, .trigRate 1000#32, .trigStart] s
                 with inbox := before ++ rest, held := none, adcOn := true }
      step s = .next (match k with
        | .respond st => afterResponse st 0#32 t
        | .configure c m => afterConfigure c m t)

/-- The model's choice (log 4, on R86): an indication no held command waits for is taken and lost. -/
def Obligations.UnawaitedReadyChangesNothing : Prop :=
  ∀ (s : State) (x : ReadyWait) (rest : List Input), s.inbox = .ready x :: rest → (∀ h, s.held = some h → h.wait ≠ x) →
    step s = .next { s with inbox := rest }

/-! ### SAMPLE -/

/-- R130, R133: with both channels in Disabled or ConstantDuty, SAMPLE writes the four sense registers and nothing else. -/
def Obligations.SampleInIdleModesOnlyWritesSenses : Prop :=
  ∀ (v1 i1 v2 i2 : Codepoint) (s : State), idleMode s.ch1.mode → idleMode s.ch2.mode →
    exec (.sample v1 i1 v2 i2) s = .next (withSenses v1 i1 v2 i2 s)

/-- R130, R132, R139, R171, R172, R224, R228, R310: every SAMPLE completes; the senses are written, then channel 1's tick runs, then, unless
it was fatal, channel 2's; each tick is exactly that of the rules, with every compare value checked before it is emitted. -/
def Obligations.SampleRunsBothFeedbackTicksInOrder : Prop :=
  ∀ (v1 i1 v2 i2 : Codepoint) (s : State), ∃ t, exec (.sample v1 i1 v2 i2) s = .next t ∧
    (FeedbackFatal .ch1 (withSenses v1 i1 v2 i2 s) t ∨
      ∃ m, FeedbackTick .ch1 (withSenses v1 i1 v2 i2 s) m ∧ (FeedbackFatal .ch2 m t ∨ FeedbackTick .ch2 m t))

/-- R82, R130: whatever the modes and whatever follows, a sample word's four fields stand in the four sense registers. -/
def Obligations.SampleWordFieldsReachTheSenseRegisters : Prop :=
  ∀ (w : BitVec 64) (s : State), ∃ t, exec (decodeSample w) s = .next t ∧
    t.ch1.vsense.toNat = w.toNat % 65536 ∧ t.ch1.isense.toNat = w.toNat / 2 ^ 16 % 65536 ∧
      t.ch2.vsense.toNat = w.toNat / 2 ^ 32 % 65536 ∧ t.ch2.isense.toNat = w.toNat / 2 ^ 48

/-- R151 (with R140, R146, R147 and R148): MIX takes the first row of the table that matches, with deltas rounded toward minus
infinity, lowers d2 to d1, and the clamp brings each of the two into [0, 0xFFFF]. -/
def Obligations.MixFollowsTheBranchTable : Prop :=
  ∀ (err : Int) (g : GainPair) (d1 d2 : Int),
    let w := mix err g d1 d2
    MixRow err g d1 d2 w ∧
      ((clampDuty w.1).toNat : Int) = max 0 (min w.1 0xFFFF) ∧ ((clampDuty w.2).toNat : Int) = max 0 (min w.2 0xFFFF)

/-- R147, R148, R130, R310: after every SAMPLE, one that halts included, each channel in a feedback mode whose FEEDBACK ran has
duty2 <= duty1 <= 0xFFFF, if it had duty2 <= duty1 before; the one FEEDBACK that does not run is channel 2's after channel 1's
Fatal, and then channel 2's duties are as before. -/
def Obligations.FeedbackKeepsDuty2BelowDuty1 : Prop :=
  ∀ (c : Channel) (v1 i1 v2 i2 : Codepoint) (s : State), Running s →
    (s.chan c).mode = .voltageFeedback ∨ (s.chan c).mode = .currentFeedback → (s.chan c).duty2.toNat ≤ (s.chan c).duty1.toNat →
      ∃ t, exec (.sample v1 i1 v2 i2) s = .next t ∧
        let skipped := c = .ch2 ∧ t.halted = true ∧ t.fault.channel = some .ch1
        (¬ skipped → (t.chan c).duty2.toNat ≤ (t.chan c).duty1.toNat ∧ (t.chan c).duty1.toNat ≤ 0xFFFF) ∧
          (skipped → (t.chan c).duty1 = (s.chan c).duty1 ∧ (t.chan c).duty2 = (s.chan c).duty2)

/-- R78, R131, R314: a SAMPLE gives no response, never holds, keeps a held command held unless it halts, and emits at most three
operations, every one a SET_COMPARE. -/
def Obligations.SampleIsBoundedAndSilent : Prop :=
  ∀ (v1 i1 v2 i2 : Codepoint) (s t : State), exec (.sample v1 i1 v2 i2) s = .next t →
    t.responses = s.responses ∧ (t.held = s.held ∨ (t.halted = true ∧ t.held = none)) ∧
      ∃ ops, t.driverOps = s.driverOps ++ ops ∧ ops.length ≤ 3 ∧ ∀ op ∈ ops, ∃ x u n, op = .setCompare x u n

/-! ### The whole machine -/

/-- R37 (with R24, R35, R36, R104): from every state that meets the invariant, not only those a run reaches, a step leads to one
that meets it. -/
def Obligations.EveryStepKeepsTheInvariant : Prop :=
  ∀ s t : State, CoreInv s → step s = .next t → CoreInv t

/-- R37, R41: the invariant holds right after reset, whatever the construction parameters. -/
def Obligations.InvariantHoldsAfterReset : Prop :=
  (∀ p : Construction, CoreInv (State.construct p)) ∧ CoreInv State.reset

/-- R8, R26, R28, R29, R59: no step changes a construction parameter, and the registers that hold them keep doing so. -/
def Obligations.EveryStepKeepsTheConstruction : Prop :=
  ∀ s t : State, HoldsConstruction s → step s = .next t →
    t.params = s.params ∧ HoldsConstruction t ∧ constantsOf t.ch1 = constantsOf s.ch1 ∧ constantsOf t.ch2 = constantsOf s.ch2

/-- R21, R27, R255: a setpoint within the limit it is checked against stays so at every step. -/
def Obligations.EveryStepKeepsSetpointsWithinLimits : Prop :=
  ∀ s t : State, SetpointsWithinLimits s → step s = .next t → SetpointsWithinLimits t

/-- R349, first bullet (with R172): in a state that meets the invariant, with both periods at most 0xFFFF, no step halts CORE; every
step of such a state has a next state. -/
def Obligations.PeriodsUpTo0xFFFFNeverHalt : Prop :=
  ∀ s : State, CoreInv s → PeriodsFit s → Running s → ∃ t, step s = .next t ∧ Running t

/-- R170, R172, R349: a duty of at most 0xFFFF never overflows with a period of at most 0x10001, a duty of 0x10000 overflows exactly
when the period exceeds 0xFFFF, and from the period 0x10002 on even the clamped duty 0xFFFF overflows. -/
def Obligations.TickOverflowBoundaries : Prop :=
  ∀ d p : Word,
    (d.toNat ≤ 0xFFFF → p.toNat ≤ 0x10001 → tickOverflows (ticks d p) = false) ∧
      (d.toNat = 0x10000 → (tickOverflows (ticks d p) = true ↔ 0xFFFF < p.toNat)) ∧
        (d.toNat = 0xFFFF → (tickOverflows (ticks d p) = true ↔ 0x10002 ≤ p.toNat)) ∧
          (0 < p.toNat → (tickOverflows (ticks d p) = true ↔ (2 ^ 32 - 1) / p.toNat < d.toNat))

/-- R309: a command that ends with ILLEGAL or REJECTED writes no state and emits no driver operation: the response is all. -/
def Obligations.RejectedAndIllegalChangeNothing : Prop :=
  ∀ (i : Instr) (s t : State) (st : Status) (d : Word), exec i s = .next t → t.responses = s.responses ++ [⟨st, d⟩] →
    st = .rejected ∨ st = .illegal → t = afterResponse st 0#32 s

/-- R52, R57, R78: the two output sequences only grow, a step gives at most one response, and one that is not OK carries 0. -/
def Obligations.OutputsOnlyGrowByAtMostOneResponse : Prop :=
  ∀ s t : State, step s = .next t →
    (∃ ops, t.driverOps = s.driverOps ++ ops) ∧
      ∃ rs, t.responses = s.responses ++ rs ∧ rs.length ≤ 1 ∧ ∀ r ∈ rs, r.st ≠ .ok → r.d = 0#32

/-- R100: only SET_MODE, at once or when it goes on after a hold, moves a channel to a mode other than Disabled; SET_DUTY can only move
it to Disabled; no other instruction changes a mode. -/
def Obligations.OnlySetModeLeavesDisabled : Prop :=
  (∀ (i : Instr) (c : Channel) (s t : State), exec i s = .next t → (t.chan c).mode ≠ (s.chan c).mode →
    (∃ m, i = .setMode c m ∧ ((t.chan c).mode = m ∨ (t.chan c).mode = .disabled)) ∨
      ((∃ d1 d2, i = .setDuty c d1 d2) ∧ (t.chan c).mode = .disabled)) ∧
  (∀ (h : Held) (c : Channel) (s : State), ((continueHeld h s).chan c).mode ≠ (s.chan c).mode →
    ∃ m, h.rest = .configure c m ∧ (((continueHeld h s).chan c).mode = m ∨ ((continueHeld h s).chan c).mode = .disabled))

/-- R42, R55: a command leaves every register of the channel it does not address as it was, and one that addresses channel 1, or is
not SET_CH2_SOURCE, leaves the source as it was. -/
def Obligations.CommandsLeaveTheOtherChannelAlone : Prop :=
  ∀ (i : Instr) (c : Channel) (s t : State), addressedChannel i = some c → exec i s = .next t →
    t.chan (otherChannel c) = s.chan (otherChannel c) ∧ ((∀ src, i ≠ .setCh2Source src) → t.source = s.source)

/-- R174: CORE's state and responses do not depend on the polarities; only the arguments of CFG_OUTPUT do: runs from two states that
differ only there stay so. -/
def Obligations.PolarityOnlyShowsInCfgOutput : Prop :=
  ∀ s t : State, step s = .next t → ∃ u, step (erasePolarity s) = .next u ∧ erasePolarity u = erasePolarity t

/-- R105, R250, R303: a SET_MODE or SET_DUTY that ends in CONFIG_FAULT, at once or when it goes on after READY(ADC), the response
being given or still owed by a teardown that holds, leaves its channel Disabled and not active, with its period and setpoints as
they were and its duties as the command left them. -/
def Obligations.ConfigFaultLeavesTheChannelDisabled : Prop :=
  (∀ (i : Instr) (c : Channel) (s t : State), addressedChannel i = some c → exec i s = .next t → s.held = none →
    (t.responses = s.responses ++ [⟨.configFault, 0#32⟩] ∨ ∃ x, t.held = some ⟨x, .respond .configFault⟩) →
      downWithSettingsOf c s t ∧
        ((∃ m, i = .setMode c m ∧ m ≠ .disabled ∧ (t.chan c).duty1 = (s.chan c).duty1 ∧ (t.chan c).duty2 = (s.chan c).duty2) ∨
          i = .setDuty c (t.chan c).duty1 (t.chan c).duty2)) ∧
  (∀ (c : Channel) (m : Mode) (s t : State) (before rest : List Input), Running s → s.held = some ⟨.adc, .configure c m⟩ →
    s.inbox = before ++ .ready .adc :: rest → (∀ x ∈ before, isCommand x = true) → step s = .next t →
      (t.responses = s.responses ++ [⟨.configFault, 0#32⟩] ∨ ∃ x, t.held = some ⟨x, .respond .configFault⟩) →
        downWithSettingsOf c s t ∧ (t.chan c).duty1 = (s.chan c).duty1 ∧ (t.chan c).duty2 = (s.chan c).duty2)

/-! ### The byte transport -/

/-- R53: at a CORE built with any PORT_BYTE_ORDER, the bytes of a port word become the input that delivers it, behind the waiting ones;
bytes of another number are rejected by name and deliver nothing; the response port's bytes are those of its responses in
order; the order a construction takes by default is little-endian. That arriving inputs wait in one list is the model's choice
(log 1), and so are the rejections (log 15). -/
def Obligations.DeliveredBytesReachTheirPort : Prop :=
  (∀ (s : State) (w : BitVec 96) (x : BitVec 64),
    deliverCommandBytes (portWordBytes (.command w) s.params.portByteOrder) s = .ok { s with inbox := s.inbox ++ [.command w] } ∧
      deliverSampleBytes (portWordBytes (.sample x) s.params.portByteOrder) s = .ok { s with inbox := s.inbox ++ [.sample x] }) ∧
  (∀ (s : State) (bs : List Byte),
    (bs.length ≠ 12 → deliverCommandBytes bs s = .error .commandNotTwelveBytes) ∧
      (bs.length ≠ 8 → deliverSampleBytes bs s = .error .sampleNotEightBytes)) ∧
  (∀ (s : State) (st : Status) (d : Word),
    responsePortBytes (afterResponse st d s) = responsePortBytes s ++ responseBytes st d s.params.portByteOrder) ∧
  ∀ (c1 c2 : ChanConstruction) (phase : Word) (a b e : Polarity),
    (State.construct { ch1 := c1, ch2 := c2, phaseOffset := phase, polA := a, polB := b, pol2 := e }).params.portByteOrder = .little
end

