-- ==== Sys2Proof/Laws/Decode.lean ====
section
/-!
SUPPORT. Laws/Decode.lean: the fields of packed words read back (30_encoding.md R70, R71, R82), each field of a word as a number,
and the byte transport's basic law (20_memory.md R53).
-/

namespace Sys2Proof

/-! ### Fields of packed words -/

@[simp] theorem cmdH_packCommand (h a b : Word) : cmdH (packCommand h a b) = h := by
  apply BitVec.eq_of_toNat_eq
  simp only [cmdH, packCommand, BitVec.extractLsb'_toNat, BitVec.toNat_append, Nat.shiftRight_eq_div_pow]
  rw [← Nat.shiftLeft_add_eq_or_of_lt (by omega), ← Nat.shiftLeft_add_eq_or_of_lt (by omega), Nat.shiftLeft_eq, Nat.shiftLeft_eq]
  omega

@[simp] theorem cmdA_packCommand (h a b : Word) : cmdA (packCommand h a b) = a := by
  apply BitVec.eq_of_toNat_eq
  simp only [cmdA, packCommand, BitVec.extractLsb'_toNat, BitVec.toNat_append, Nat.shiftRight_eq_div_pow]
  rw [← Nat.shiftLeft_add_eq_or_of_lt (by omega), ← Nat.shiftLeft_add_eq_or_of_lt (by omega), Nat.shiftLeft_eq, Nat.shiftLeft_eq]
  omega

@[simp] theorem cmdB_packCommand (h a b : Word) : cmdB (packCommand h a b) = b := by
  apply BitVec.eq_of_toNat_eq
  simp only [cmdB, packCommand, BitVec.extractLsb'_toNat, BitVec.toNat_append, Nat.shiftRight_eq_div_pow]
  rw [← Nat.shiftLeft_add_eq_or_of_lt (by omega), ← Nat.shiftLeft_add_eq_or_of_lt (by omega), Nat.shiftLeft_eq, Nat.shiftLeft_eq]
  omega

theorem decodeCommand_packCommand (h a b : Word) : decodeCommand (packCommand h a b) = decodeWords h a b := by
  simp [decodeCommand]

/-! ### Fields as numbers -/

theorem toNat_cmdH (w : BitVec 96) : (cmdH w).toNat = w.toNat / 2 ^ 64 := by
  simp only [cmdH, BitVec.extractLsb'_toNat, Nat.shiftRight_eq_div_pow]; omega

theorem toNat_cmdA (w : BitVec 96) : (cmdA w).toNat = w.toNat / 2 ^ 32 % 2 ^ 32 := by
  simp only [cmdA, BitVec.extractLsb'_toNat, Nat.shiftRight_eq_div_pow]

theorem toNat_cmdB (w : BitVec 96) : (cmdB w).toNat = w.toNat % 2 ^ 32 := by
  simp only [cmdB, BitVec.extractLsb'_toNat, Nat.shiftRight_eq_div_pow]; omega

theorem toNat_headerOpc (h : Word) : (headerOpc h).toNat = h.toNat % 256 := by
  simp only [headerOpc, BitVec.extractLsb'_toNat, Nat.shiftRight_eq_div_pow]; omega

theorem toNat_headerCh (h : Word) : (headerCh h).toNat = h.toNat / 256 % 2 := by
  simp only [headerCh, BitVec.extractLsb'_toNat, Nat.shiftRight_eq_div_pow]

theorem toNat_headerRsv (h : Word) : (headerRsv h).toNat = h.toNat / 512 := by
  simp only [headerRsv, BitVec.extractLsb'_toNat, Nat.shiftRight_eq_div_pow]; omega

/-! ### Headers -/

@[simp] theorem headerOpc_header (opc : BitVec 8) (c : Channel) : headerOpc (header opc c) = opc := by
  cases c <;> revert opc <;> decide

@[simp] theorem headerRsv_header (opc : BitVec 8) (c : Channel) : headerRsv (header opc c) = 0#23 := by
  cases c <;> revert opc <;> decide

@[simp] theorem channelOfBit_headerCh_header (opc : BitVec 8) (c : Channel) : channelOfBit (headerCh (header opc c)) = c := by
  cases c <;> revert opc <;> decide

@[simp] theorem modeOfCode_modeCode (m : Mode) : modeOfCode ((modeCode m).zeroExtend 32) = some m := by
  cases m <;> decide

@[simp] theorem sourceOfCode_sourceCode (src : Source) : sourceOfCode ((sourceCode src).zeroExtend 32) = some src := by
  cases src <;> decide

/-! ### Which words are ILLEGAL -/

theorem illegalEncoding_iff (h a : Word) : illegalEncoding h a = true ↔
    (h.toNat % 256 = 0 ∨ 15 ≤ h.toNat % 256) ∨ h.toNat / 512 ≠ 0 ∨ (h.toNat % 256 = 12 ∧ h.toNat / 256 % 2 = 0) ∨
      (h.toNat % 256 = 1 ∧ 4 < a.toNat) ∨ (h.toNat % 256 = 12 ∧ 1 < a.toNat) := by
  simp [illegalEncoding, reservedOpcode, reservedBitsSet, sourceOnChannel1, modeCodeOutOfRange, sourceCodeOutOfRange]
  tauto

theorem modeOfCode_eq_none (a : Word) : modeOfCode a = none ↔ 4 < a.toNat := by
  unfold modeOfCode
  split <;> simp_all
  omega

theorem sourceOfCode_eq_none (a : Word) : sourceOfCode a = none ↔ 1 < a.toNat := by
  unfold sourceOfCode
  split <;> simp_all
  omega

theorem channelOfBit_eq_ch1 (h : Word) : channelOfBit (headerCh h) = .ch1 ↔ h.toNat / 256 % 2 = 0 := by
  have := toNat_headerCh h
  unfold channelOfBit
  split <;> simp_all [BitVec.toNat_eq]

theorem channelOfBit_eq_ch2 (h : Word) : channelOfBit (headerCh h) = .ch2 ↔ h.toNat / 256 % 2 = 1 := by
  have := toNat_headerCh h
  unfold channelOfBit
  split <;> simp_all [BitVec.toNat_eq]

theorem headerRsv_eq_zero (h : Word) : headerRsv h = 0#23 ↔ h.toNat / 512 = 0 := by
  rw [BitVec.toNat_eq, toNat_headerRsv]
  rfl

/-- A word the decoder reads as reserved is kept as it stands. -/
theorem decodeWords_reserved_words {h a b x y z : Word} (e : decodeWords h a b = .reserved x y z) : x = h ∧ y = a ∧ z = b := by
  revert e
  unfold decodeWords
  dsimp only
  repeat' split
  all_goals simp_all

/-! ### Samples -/

theorem decodeSample_packSample (v1 i1 v2 i2 : Codepoint) : decodeSample (packSample v1 i1 v2 i2) = .sample v1 i1 v2 i2 := by
  simp only [decodeSample, packSample, Instr.sample.injEq]
  refine ⟨?_, ?_, ?_, ?_⟩ <;> apply BitVec.eq_of_toNat_eq <;>
    simp only [BitVec.extractLsb'_toNat, BitVec.toNat_append, Nat.shiftRight_eq_div_pow] <;>
    rw [← Nat.shiftLeft_add_eq_or_of_lt (by omega), ← Nat.shiftLeft_add_eq_or_of_lt (by omega),
      ← Nat.shiftLeft_add_eq_or_of_lt (by omega), Nat.shiftLeft_eq, Nat.shiftLeft_eq, Nat.shiftLeft_eq] <;>
    omega

/-! ### Bytes -/

theorem length_bytesOfNatLE (n v : Nat) : (bytesOfNatLE n v).length = n := by
  induction n generalizing v with
  | zero => rfl
  | succ n ih => simp [bytesOfNatLE, ih]

theorem natOfBytesLE_bytesOfNatLE (n v : Nat) : natOfBytesLE (bytesOfNatLE n v) = v % 256 ^ n := by
  induction n generalizing v with
  | zero => simp [bytesOfNatLE, natOfBytesLE, Nat.mod_one]
  | succ n ih =>
    simp only [bytesOfNatLE, natOfBytesLE, ih, BitVec.toNat_ofNat]
    rw [show (256 : Nat) ^ (n + 1) = 256 * 256 ^ n by ring, Nat.mod_mul]

/-- Byte k of a value, byte 0 first (R53). -/
theorem getElem?_bytesOfNatLE (n v k : Nat) (hk : k < n) : (bytesOfNatLE n v)[k]? = some (BitVec.ofNat 8 (v / 256 ^ k)) := by
  induction n generalizing v k with
  | zero => omega
  | succ n ih =>
    cases k with
    | zero => simp [bytesOfNatLE]
    | succ k =>
      simp only [bytesOfNatLE, List.getElem?_cons_succ]
      rw [ih _ _ (by omega), Nat.div_div_eq_div_mul, pow_succ']

theorem length_bytesOfNat (o : ByteOrder) (n v : Nat) : (bytesOfNat o n v).length = n := by
  cases o <;> simp [bytesOfNat, length_bytesOfNatLE]

theorem natOfBytes_bytesOfNat (o : ByteOrder) (n v : Nat) : natOfBytes o (bytesOfNat o n v) = v % 256 ^ n := by
  cases o <;> simp [natOfBytes, bytesOfNat, natOfBytesLE_bytesOfNatLE]

end Sys2Proof
end

