-- ==== Sys2Proof/Laws/State.lean ====
section
/-!
SUPPORT. Laws/State.lean: one lemma per field per update, so that no later proof unfolds a record update: the channel register
setters, and the shared operations of Machine/Ops.lean.
-/

namespace Sys2Proof.Machine

/-! ### Channel registers -/

@[simp] theorem Chan.setMode_mode (m : Mode) (ch : Chan) : (ch.setMode m).mode = m := rfl
@[simp] theorem Chan.setMode_period (m : Mode) (ch : Chan) : (ch.setMode m).period = ch.period := rfl
@[simp] theorem Chan.setMode_duty1 (m : Mode) (ch : Chan) : (ch.setMode m).duty1 = ch.duty1 := rfl
@[simp] theorem Chan.setMode_duty2 (m : Mode) (ch : Chan) : (ch.setMode m).duty2 = ch.duty2 := rfl
@[simp] theorem Chan.setMode_vsense (m : Mode) (ch : Chan) : (ch.setMode m).vsense = ch.vsense := rfl
@[simp] theorem Chan.setMode_isense (m : Mode) (ch : Chan) : (ch.setMode m).isense = ch.isense := rfl
@[simp] theorem Chan.setMode_vsenseGain (m : Mode) (ch : Chan) : (ch.setMode m).vsenseGain = ch.vsenseGain := rfl
@[simp] theorem Chan.setMode_isenseGain (m : Mode) (ch : Chan) : (ch.setMode m).isenseGain = ch.isenseGain := rfl
@[simp] theorem Chan.setMode_vsetpoint (m : Mode) (ch : Chan) : (ch.setMode m).vsetpoint = ch.vsetpoint := rfl
@[simp] theorem Chan.setMode_isetpoint (m : Mode) (ch : Chan) : (ch.setMode m).isetpoint = ch.isetpoint := rfl
@[simp] theorem Chan.setMode_ilimit (m : Mode) (ch : Chan) : (ch.setMode m).ilimit = ch.ilimit := rfl
@[simp] theorem Chan.setMode_vlimit (m : Mode) (ch : Chan) : (ch.setMode m).vlimit = ch.vlimit := rfl
@[simp] theorem Chan.setMode_vGains (m : Mode) (ch : Chan) : (ch.setMode m).vGains = ch.vGains := rfl
@[simp] theorem Chan.setMode_iGains (m : Mode) (ch : Chan) : (ch.setMode m).iGains = ch.iGains := rfl
@[simp] theorem Chan.setMode_active (m : Mode) (ch : Chan) : (ch.setMode m).active = ch.active := rfl

@[simp] theorem Chan.setPeriod_mode (p : Word) (ch : Chan) : (ch.setPeriod p).mode = ch.mode := rfl
@[simp] theorem Chan.setPeriod_period (p : Word) (ch : Chan) : (ch.setPeriod p).period = p := rfl
@[simp] theorem Chan.setPeriod_duty1 (p : Word) (ch : Chan) : (ch.setPeriod p).duty1 = ch.duty1 := rfl
@[simp] theorem Chan.setPeriod_duty2 (p : Word) (ch : Chan) : (ch.setPeriod p).duty2 = ch.duty2 := rfl
@[simp] theorem Chan.setPeriod_vsense (p : Word) (ch : Chan) : (ch.setPeriod p).vsense = ch.vsense := rfl
@[simp] theorem Chan.setPeriod_isense (p : Word) (ch : Chan) : (ch.setPeriod p).isense = ch.isense := rfl
@[simp] theorem Chan.setPeriod_vsenseGain (p : Word) (ch : Chan) : (ch.setPeriod p).vsenseGain = ch.vsenseGain := rfl
@[simp] theorem Chan.setPeriod_isenseGain (p : Word) (ch : Chan) : (ch.setPeriod p).isenseGain = ch.isenseGain := rfl
@[simp] theorem Chan.setPeriod_vsetpoint (p : Word) (ch : Chan) : (ch.setPeriod p).vsetpoint = ch.vsetpoint := rfl
@[simp] theorem Chan.setPeriod_isetpoint (p : Word) (ch : Chan) : (ch.setPeriod p).isetpoint = ch.isetpoint := rfl
@[simp] theorem Chan.setPeriod_ilimit (p : Word) (ch : Chan) : (ch.setPeriod p).ilimit = ch.ilimit := rfl
@[simp] theorem Chan.setPeriod_vlimit (p : Word) (ch : Chan) : (ch.setPeriod p).vlimit = ch.vlimit := rfl
@[simp] theorem Chan.setPeriod_vGains (p : Word) (ch : Chan) : (ch.setPeriod p).vGains = ch.vGains := rfl
@[simp] theorem Chan.setPeriod_iGains (p : Word) (ch : Chan) : (ch.setPeriod p).iGains = ch.iGains := rfl
@[simp] theorem Chan.setPeriod_active (p : Word) (ch : Chan) : (ch.setPeriod p).active = ch.active := rfl

@[simp] theorem Chan.setDuties_mode (d1 d2 : Word) (ch : Chan) : (ch.setDuties d1 d2).mode = ch.mode := rfl
@[simp] theorem Chan.setDuties_period (d1 d2 : Word) (ch : Chan) : (ch.setDuties d1 d2).period = ch.period := rfl
@[simp] theorem Chan.setDuties_duty1 (d1 d2 : Word) (ch : Chan) : (ch.setDuties d1 d2).duty1 = d1 := rfl
@[simp] theorem Chan.setDuties_duty2 (d1 d2 : Word) (ch : Chan) : (ch.setDuties d1 d2).duty2 = d2 := rfl
@[simp] theorem Chan.setDuties_vsense (d1 d2 : Word) (ch : Chan) : (ch.setDuties d1 d2).vsense = ch.vsense := rfl
@[simp] theorem Chan.setDuties_isense (d1 d2 : Word) (ch : Chan) : (ch.setDuties d1 d2).isense = ch.isense := rfl
@[simp] theorem Chan.setDuties_vsenseGain (d1 d2 : Word) (ch : Chan) : (ch.setDuties d1 d2).vsenseGain = ch.vsenseGain := rfl
@[simp] theorem Chan.setDuties_isenseGain (d1 d2 : Word) (ch : Chan) : (ch.setDuties d1 d2).isenseGain = ch.isenseGain := rfl
@[simp] theorem Chan.setDuties_vsetpoint (d1 d2 : Word) (ch : Chan) : (ch.setDuties d1 d2).vsetpoint = ch.vsetpoint := rfl
@[simp] theorem Chan.setDuties_isetpoint (d1 d2 : Word) (ch : Chan) : (ch.setDuties d1 d2).isetpoint = ch.isetpoint := rfl
@[simp] theorem Chan.setDuties_ilimit (d1 d2 : Word) (ch : Chan) : (ch.setDuties d1 d2).ilimit = ch.ilimit := rfl
@[simp] theorem Chan.setDuties_vlimit (d1 d2 : Word) (ch : Chan) : (ch.setDuties d1 d2).vlimit = ch.vlimit := rfl
@[simp] theorem Chan.setDuties_vGains (d1 d2 : Word) (ch : Chan) : (ch.setDuties d1 d2).vGains = ch.vGains := rfl
@[simp] theorem Chan.setDuties_iGains (d1 d2 : Word) (ch : Chan) : (ch.setDuties d1 d2).iGains = ch.iGains := rfl
@[simp] theorem Chan.setDuties_active (d1 d2 : Word) (ch : Chan) : (ch.setDuties d1 d2).active = ch.active := rfl

@[simp] theorem Chan.setSenses_mode (v i : Codepoint) (ch : Chan) : (ch.setSenses v i).mode = ch.mode := rfl
@[simp] theorem Chan.setSenses_period (v i : Codepoint) (ch : Chan) : (ch.setSenses v i).period = ch.period := rfl
@[simp] theorem Chan.setSenses_duty1 (v i : Codepoint) (ch : Chan) : (ch.setSenses v i).duty1 = ch.duty1 := rfl
@[simp] theorem Chan.setSenses_duty2 (v i : Codepoint) (ch : Chan) : (ch.setSenses v i).duty2 = ch.duty2 := rfl
@[simp] theorem Chan.setSenses_vsense (v i : Codepoint) (ch : Chan) : (ch.setSenses v i).vsense = v := rfl
@[simp] theorem Chan.setSenses_isense (v i : Codepoint) (ch : Chan) : (ch.setSenses v i).isense = i := rfl
@[simp] theorem Chan.setSenses_vsenseGain (v i : Codepoint) (ch : Chan) : (ch.setSenses v i).vsenseGain = ch.vsenseGain := rfl
@[simp] theorem Chan.setSenses_isenseGain (v i : Codepoint) (ch : Chan) : (ch.setSenses v i).isenseGain = ch.isenseGain := rfl
@[simp] theorem Chan.setSenses_vsetpoint (v i : Codepoint) (ch : Chan) : (ch.setSenses v i).vsetpoint = ch.vsetpoint := rfl
@[simp] theorem Chan.setSenses_isetpoint (v i : Codepoint) (ch : Chan) : (ch.setSenses v i).isetpoint = ch.isetpoint := rfl
@[simp] theorem Chan.setSenses_ilimit (v i : Codepoint) (ch : Chan) : (ch.setSenses v i).ilimit = ch.ilimit := rfl
@[simp] theorem Chan.setSenses_vlimit (v i : Codepoint) (ch : Chan) : (ch.setSenses v i).vlimit = ch.vlimit := rfl
@[simp] theorem Chan.setSenses_vGains (v i : Codepoint) (ch : Chan) : (ch.setSenses v i).vGains = ch.vGains := rfl
@[simp] theorem Chan.setSenses_iGains (v i : Codepoint) (ch : Chan) : (ch.setSenses v i).iGains = ch.iGains := rfl
@[simp] theorem Chan.setSenses_active (v i : Codepoint) (ch : Chan) : (ch.setSenses v i).active = ch.active := rfl

@[simp] theorem Chan.setVsetpoint_mode (v : Codepoint) (ch : Chan) : (ch.setVsetpoint v).mode = ch.mode := rfl
@[simp] theorem Chan.setVsetpoint_period (v : Codepoint) (ch : Chan) : (ch.setVsetpoint v).period = ch.period := rfl
@[simp] theorem Chan.setVsetpoint_duty1 (v : Codepoint) (ch : Chan) : (ch.setVsetpoint v).duty1 = ch.duty1 := rfl
@[simp] theorem Chan.setVsetpoint_duty2 (v : Codepoint) (ch : Chan) : (ch.setVsetpoint v).duty2 = ch.duty2 := rfl
@[simp] theorem Chan.setVsetpoint_vsense (v : Codepoint) (ch : Chan) : (ch.setVsetpoint v).vsense = ch.vsense := rfl
@[simp] theorem Chan.setVsetpoint_isense (v : Codepoint) (ch : Chan) : (ch.setVsetpoint v).isense = ch.isense := rfl
@[simp] theorem Chan.setVsetpoint_vsenseGain (v : Codepoint) (ch : Chan) : (ch.setVsetpoint v).vsenseGain = ch.vsenseGain := rfl
@[simp] theorem Chan.setVsetpoint_isenseGain (v : Codepoint) (ch : Chan) : (ch.setVsetpoint v).isenseGain = ch.isenseGain := rfl
@[simp] theorem Chan.setVsetpoint_vsetpoint (v : Codepoint) (ch : Chan) : (ch.setVsetpoint v).vsetpoint = v := rfl
@[simp] theorem Chan.setVsetpoint_isetpoint (v : Codepoint) (ch : Chan) : (ch.setVsetpoint v).isetpoint = ch.isetpoint := rfl
@[simp] theorem Chan.setVsetpoint_ilimit (v : Codepoint) (ch : Chan) : (ch.setVsetpoint v).ilimit = ch.ilimit := rfl
@[simp] theorem Chan.setVsetpoint_vlimit (v : Codepoint) (ch : Chan) : (ch.setVsetpoint v).vlimit = ch.vlimit := rfl
@[simp] theorem Chan.setVsetpoint_vGains (v : Codepoint) (ch : Chan) : (ch.setVsetpoint v).vGains = ch.vGains := rfl
@[simp] theorem Chan.setVsetpoint_iGains (v : Codepoint) (ch : Chan) : (ch.setVsetpoint v).iGains = ch.iGains := rfl
@[simp] theorem Chan.setVsetpoint_active (v : Codepoint) (ch : Chan) : (ch.setVsetpoint v).active = ch.active := rfl

@[simp] theorem Chan.setIsetpoint_mode (i : Codepoint) (ch : Chan) : (ch.setIsetpoint i).mode = ch.mode := rfl
@[simp] theorem Chan.setIsetpoint_period (i : Codepoint) (ch : Chan) : (ch.setIsetpoint i).period = ch.period := rfl
@[simp] theorem Chan.setIsetpoint_duty1 (i : Codepoint) (ch : Chan) : (ch.setIsetpoint i).duty1 = ch.duty1 := rfl
@[simp] theorem Chan.setIsetpoint_duty2 (i : Codepoint) (ch : Chan) : (ch.setIsetpoint i).duty2 = ch.duty2 := rfl
@[simp] theorem Chan.setIsetpoint_vsense (i : Codepoint) (ch : Chan) : (ch.setIsetpoint i).vsense = ch.vsense := rfl
@[simp] theorem Chan.setIsetpoint_isense (i : Codepoint) (ch : Chan) : (ch.setIsetpoint i).isense = ch.isense := rfl
@[simp] theorem Chan.setIsetpoint_vsenseGain (i : Codepoint) (ch : Chan) : (ch.setIsetpoint i).vsenseGain = ch.vsenseGain := rfl
@[simp] theorem Chan.setIsetpoint_isenseGain (i : Codepoint) (ch : Chan) : (ch.setIsetpoint i).isenseGain = ch.isenseGain := rfl
@[simp] theorem Chan.setIsetpoint_vsetpoint (i : Codepoint) (ch : Chan) : (ch.setIsetpoint i).vsetpoint = ch.vsetpoint := rfl
@[simp] theorem Chan.setIsetpoint_isetpoint (i : Codepoint) (ch : Chan) : (ch.setIsetpoint i).isetpoint = i := rfl
@[simp] theorem Chan.setIsetpoint_ilimit (i : Codepoint) (ch : Chan) : (ch.setIsetpoint i).ilimit = ch.ilimit := rfl
@[simp] theorem Chan.setIsetpoint_vlimit (i : Codepoint) (ch : Chan) : (ch.setIsetpoint i).vlimit = ch.vlimit := rfl
@[simp] theorem Chan.setIsetpoint_vGains (i : Codepoint) (ch : Chan) : (ch.setIsetpoint i).vGains = ch.vGains := rfl
@[simp] theorem Chan.setIsetpoint_iGains (i : Codepoint) (ch : Chan) : (ch.setIsetpoint i).iGains = ch.iGains := rfl
@[simp] theorem Chan.setIsetpoint_active (i : Codepoint) (ch : Chan) : (ch.setIsetpoint i).active = ch.active := rfl

@[simp] theorem Chan.setActive_mode (b : Bool) (ch : Chan) : (ch.setActive b).mode = ch.mode := rfl
@[simp] theorem Chan.setActive_period (b : Bool) (ch : Chan) : (ch.setActive b).period = ch.period := rfl
@[simp] theorem Chan.setActive_duty1 (b : Bool) (ch : Chan) : (ch.setActive b).duty1 = ch.duty1 := rfl
@[simp] theorem Chan.setActive_duty2 (b : Bool) (ch : Chan) : (ch.setActive b).duty2 = ch.duty2 := rfl
@[simp] theorem Chan.setActive_vsense (b : Bool) (ch : Chan) : (ch.setActive b).vsense = ch.vsense := rfl
@[simp] theorem Chan.setActive_isense (b : Bool) (ch : Chan) : (ch.setActive b).isense = ch.isense := rfl
@[simp] theorem Chan.setActive_vsenseGain (b : Bool) (ch : Chan) : (ch.setActive b).vsenseGain = ch.vsenseGain := rfl
@[simp] theorem Chan.setActive_isenseGain (b : Bool) (ch : Chan) : (ch.setActive b).isenseGain = ch.isenseGain := rfl
@[simp] theorem Chan.setActive_vsetpoint (b : Bool) (ch : Chan) : (ch.setActive b).vsetpoint = ch.vsetpoint := rfl
@[simp] theorem Chan.setActive_isetpoint (b : Bool) (ch : Chan) : (ch.setActive b).isetpoint = ch.isetpoint := rfl
@[simp] theorem Chan.setActive_ilimit (b : Bool) (ch : Chan) : (ch.setActive b).ilimit = ch.ilimit := rfl
@[simp] theorem Chan.setActive_vlimit (b : Bool) (ch : Chan) : (ch.setActive b).vlimit = ch.vlimit := rfl
@[simp] theorem Chan.setActive_vGains (b : Bool) (ch : Chan) : (ch.setActive b).vGains = ch.vGains := rfl
@[simp] theorem Chan.setActive_iGains (b : Bool) (ch : Chan) : (ch.setActive b).iGains = ch.iGains := rfl
@[simp] theorem Chan.setActive_active (b : Bool) (ch : Chan) : (ch.setActive b).active = b := rfl

/-! ### chan[c] -/

@[simp] theorem chan_ch1 (s : State) : s.chan .ch1 = s.ch1 := rfl
@[simp] theorem chan_ch2 (s : State) : s.chan .ch2 = s.ch2 := rfl
@[simp] theorem modChan_ch1_ch1 (f : Chan → Chan) (s : State) : (modChan .ch1 f s).ch1 = f s.ch1 := rfl
@[simp] theorem modChan_ch1_ch2 (f : Chan → Chan) (s : State) : (modChan .ch1 f s).ch2 = s.ch2 := rfl
@[simp] theorem modChan_ch2_ch1 (f : Chan → Chan) (s : State) : (modChan .ch2 f s).ch1 = s.ch1 := rfl
@[simp] theorem modChan_ch2_ch2 (f : Chan → Chan) (s : State) : (modChan .ch2 f s).ch2 = f s.ch2 := rfl
@[simp] theorem modChan_chan_same (c : Channel) (f : Chan → Chan) (s : State) : (modChan c f s).chan c = f (s.chan c) := by
  cases c <;> rfl
@[simp] theorem modChan_chan_other (c : Channel) (f : Chan → Chan) (s : State) :
    (modChan c f s).chan (otherChannel c) = s.chan (otherChannel c) := by
  cases c <;> rfl
theorem modChan_chan_ne {c c' : Channel} (h : c' ≠ c) (f : Chan → Chan) (s : State) : (modChan c f s).chan c' = s.chan c' := by
  cases c <;> cases c' <;> first | rfl | exact absurd rfl h
@[simp] theorem modChan_modChan (c : Channel) (f g : Chan → Chan) (s : State) :
    modChan c f (modChan c g s) = modChan c (fun ch => f (g ch)) s := by
  cases c <;> rfl

@[simp] theorem modChan_params (c : Channel) (f : Chan → Chan) (s : State) : (modChan c f s).params = s.params := by cases c <;> rfl
@[simp] theorem modChan_source (c : Channel) (f : Chan → Chan) (s : State) : (modChan c f s).source = s.source := by cases c <;> rfl
@[simp] theorem modChan_adcOn (c : Channel) (f : Chan → Chan) (s : State) : (modChan c f s).adcOn = s.adcOn := by cases c <;> rfl
@[simp] theorem modChan_halted (c : Channel) (f : Chan → Chan) (s : State) : (modChan c f s).halted = s.halted := by cases c <;> rfl
@[simp] theorem modChan_fault (c : Channel) (f : Chan → Chan) (s : State) : (modChan c f s).fault = s.fault := by cases c <;> rfl
@[simp] theorem modChan_held (c : Channel) (f : Chan → Chan) (s : State) : (modChan c f s).held = s.held := by cases c <;> rfl
@[simp] theorem modChan_responses (c : Channel) (f : Chan → Chan) (s : State) : (modChan c f s).responses = s.responses := by cases c <;> rfl
@[simp] theorem modChan_driverOps (c : Channel) (f : Chan → Chan) (s : State) : (modChan c f s).driverOps = s.driverOps := by cases c <;> rfl
@[simp] theorem modChan_inbox (c : Channel) (f : Chan → Chan) (s : State) : (modChan c f s).inbox = s.inbox := by cases c <;> rfl
@[simp] theorem modChan_acks (c : Channel) (f : Chan → Chan) (s : State) : (modChan c f s).acks = s.acks := by cases c <;> rfl
@[simp] theorem modChan_ackDraws (c : Channel) (f : Chan → Chan) (s : State) : (modChan c f s).ackDraws = s.ackDraws := by cases c <;> rfl

/-! ### emitAll -/

@[simp] theorem emitAll_params (ops : List DriverOp) (s : State) : (emitAll ops s).params = s.params := rfl
@[simp] theorem emitAll_ch1 (ops : List DriverOp) (s : State) : (emitAll ops s).ch1 = s.ch1 := rfl
@[simp] theorem emitAll_ch2 (ops : List DriverOp) (s : State) : (emitAll ops s).ch2 = s.ch2 := rfl
@[simp] theorem emitAll_source (ops : List DriverOp) (s : State) : (emitAll ops s).source = s.source := rfl
@[simp] theorem emitAll_adcOn (ops : List DriverOp) (s : State) : (emitAll ops s).adcOn = s.adcOn := rfl
@[simp] theorem emitAll_halted (ops : List DriverOp) (s : State) : (emitAll ops s).halted = s.halted := rfl
@[simp] theorem emitAll_fault (ops : List DriverOp) (s : State) : (emitAll ops s).fault = s.fault := rfl
@[simp] theorem emitAll_held (ops : List DriverOp) (s : State) : (emitAll ops s).held = s.held := rfl
@[simp] theorem emitAll_responses (ops : List DriverOp) (s : State) : (emitAll ops s).responses = s.responses := rfl
@[simp] theorem emitAll_driverOps (ops : List DriverOp) (s : State) : (emitAll ops s).driverOps = s.driverOps ++ ops := rfl
@[simp] theorem emitAll_inbox (ops : List DriverOp) (s : State) : (emitAll ops s).inbox = s.inbox := rfl
@[simp] theorem emitAll_acks (ops : List DriverOp) (s : State) : (emitAll ops s).acks = s.acks := rfl
@[simp] theorem emitAll_ackDraws (ops : List DriverOp) (s : State) : (emitAll ops s).ackDraws = s.ackDraws := rfl
@[simp] theorem emitAll_chan (ops : List DriverOp) (s : State) (c' : Channel) : (emitAll ops s).chan c' = s.chan c' := by cases c' <;> rfl

/-! ### emit -/

@[simp] theorem emit_params (op : DriverOp) (s : State) : (emit op s).params = s.params := rfl
@[simp] theorem emit_ch1 (op : DriverOp) (s : State) : (emit op s).ch1 = s.ch1 := rfl
@[simp] theorem emit_ch2 (op : DriverOp) (s : State) : (emit op s).ch2 = s.ch2 := rfl
@[simp] theorem emit_source (op : DriverOp) (s : State) : (emit op s).source = s.source := rfl
@[simp] theorem emit_adcOn (op : DriverOp) (s : State) : (emit op s).adcOn = s.adcOn := rfl
@[simp] theorem emit_halted (op : DriverOp) (s : State) : (emit op s).halted = s.halted := rfl
@[simp] theorem emit_fault (op : DriverOp) (s : State) : (emit op s).fault = s.fault := rfl
@[simp] theorem emit_held (op : DriverOp) (s : State) : (emit op s).held = s.held := rfl
@[simp] theorem emit_responses (op : DriverOp) (s : State) : (emit op s).responses = s.responses := rfl
@[simp] theorem emit_driverOps (op : DriverOp) (s : State) : (emit op s).driverOps = s.driverOps ++ [op] := rfl
@[simp] theorem emit_inbox (op : DriverOp) (s : State) : (emit op s).inbox = s.inbox := rfl
@[simp] theorem emit_acks (op : DriverOp) (s : State) : (emit op s).acks = s.acks := rfl
@[simp] theorem emit_ackDraws (op : DriverOp) (s : State) : (emit op s).ackDraws = s.ackDraws := rfl
@[simp] theorem emit_chan (op : DriverOp) (s : State) (c' : Channel) : (emit op s).chan c' = s.chan c' := by cases c' <;> rfl

/-! ### respond -/

@[simp] theorem respond_params (st : Status) (d : Word) (s : State) : (respond st d s).params = s.params := rfl
@[simp] theorem respond_ch1 (st : Status) (d : Word) (s : State) : (respond st d s).ch1 = s.ch1 := rfl
@[simp] theorem respond_ch2 (st : Status) (d : Word) (s : State) : (respond st d s).ch2 = s.ch2 := rfl
@[simp] theorem respond_source (st : Status) (d : Word) (s : State) : (respond st d s).source = s.source := rfl
@[simp] theorem respond_adcOn (st : Status) (d : Word) (s : State) : (respond st d s).adcOn = s.adcOn := rfl
@[simp] theorem respond_halted (st : Status) (d : Word) (s : State) : (respond st d s).halted = s.halted := rfl
@[simp] theorem respond_fault (st : Status) (d : Word) (s : State) : (respond st d s).fault = s.fault := rfl
@[simp] theorem respond_held (st : Status) (d : Word) (s : State) : (respond st d s).held = s.held := rfl
@[simp] theorem respond_responses (st : Status) (d : Word) (s : State) : (respond st d s).responses = s.responses ++ [⟨st, d⟩] := rfl
@[simp] theorem respond_driverOps (st : Status) (d : Word) (s : State) : (respond st d s).driverOps = s.driverOps := rfl
@[simp] theorem respond_inbox (st : Status) (d : Word) (s : State) : (respond st d s).inbox = s.inbox := rfl
@[simp] theorem respond_acks (st : Status) (d : Word) (s : State) : (respond st d s).acks = s.acks := rfl
@[simp] theorem respond_ackDraws (st : Status) (d : Word) (s : State) : (respond st d s).ackDraws = s.ackDraws := rfl
@[simp] theorem respond_chan (st : Status) (d : Word) (s : State) (c' : Channel) : (respond st d s).chan c' = s.chan c' := by cases c' <;> rfl

/-! ### hold -/

@[simp] theorem hold_params (x : ReadyWait) (k : Resumption) (s : State) : (hold x k s).params = s.params := rfl
@[simp] theorem hold_ch1 (x : ReadyWait) (k : Resumption) (s : State) : (hold x k s).ch1 = s.ch1 := rfl
@[simp] theorem hold_ch2 (x : ReadyWait) (k : Resumption) (s : State) : (hold x k s).ch2 = s.ch2 := rfl
@[simp] theorem hold_source (x : ReadyWait) (k : Resumption) (s : State) : (hold x k s).source = s.source := rfl
@[simp] theorem hold_adcOn (x : ReadyWait) (k : Resumption) (s : State) : (hold x k s).adcOn = s.adcOn := rfl
@[simp] theorem hold_halted (x : ReadyWait) (k : Resumption) (s : State) : (hold x k s).halted = s.halted := rfl
@[simp] theorem hold_fault (x : ReadyWait) (k : Resumption) (s : State) : (hold x k s).fault = s.fault := rfl
@[simp] theorem hold_held (x : ReadyWait) (k : Resumption) (s : State) : (hold x k s).held = some ⟨x, k⟩ := rfl
@[simp] theorem hold_responses (x : ReadyWait) (k : Resumption) (s : State) : (hold x k s).responses = s.responses := rfl
@[simp] theorem hold_driverOps (x : ReadyWait) (k : Resumption) (s : State) : (hold x k s).driverOps = s.driverOps := rfl
@[simp] theorem hold_inbox (x : ReadyWait) (k : Resumption) (s : State) : (hold x k s).inbox = s.inbox := rfl
@[simp] theorem hold_acks (x : ReadyWait) (k : Resumption) (s : State) : (hold x k s).acks = s.acks := rfl
@[simp] theorem hold_ackDraws (x : ReadyWait) (k : Resumption) (s : State) : (hold x k s).ackDraws = s.ackDraws := rfl
@[simp] theorem hold_chan (x : ReadyWait) (k : Resumption) (s : State) (c' : Channel) : (hold x k s).chan c' = s.chan c' := by cases c' <;> rfl

/-! ### release -/

@[simp] theorem release_params (s : State) : (release s).params = s.params := rfl
@[simp] theorem release_ch1 (s : State) : (release s).ch1 = s.ch1 := rfl
@[simp] theorem release_ch2 (s : State) : (release s).ch2 = s.ch2 := rfl
@[simp] theorem release_source (s : State) : (release s).source = s.source := rfl
@[simp] theorem release_adcOn (s : State) : (release s).adcOn = s.adcOn := rfl
@[simp] theorem release_halted (s : State) : (release s).halted = s.halted := rfl
@[simp] theorem release_fault (s : State) : (release s).fault = s.fault := rfl
@[simp] theorem release_held (s : State) : (release s).held = none := rfl
@[simp] theorem release_responses (s : State) : (release s).responses = s.responses := rfl
@[simp] theorem release_driverOps (s : State) : (release s).driverOps = s.driverOps := rfl
@[simp] theorem release_inbox (s : State) : (release s).inbox = s.inbox := rfl
@[simp] theorem release_acks (s : State) : (release s).acks = s.acks := rfl
@[simp] theorem release_ackDraws (s : State) : (release s).ackDraws = s.ackDraws := rfl
@[simp] theorem release_chan (s : State) (c' : Channel) : (release s).chan c' = s.chan c' := by cases c' <;> rfl

/-! ### setInbox -/

@[simp] theorem setInbox_params (l : List Input) (s : State) : (setInbox l s).params = s.params := rfl
@[simp] theorem setInbox_ch1 (l : List Input) (s : State) : (setInbox l s).ch1 = s.ch1 := rfl
@[simp] theorem setInbox_ch2 (l : List Input) (s : State) : (setInbox l s).ch2 = s.ch2 := rfl
@[simp] theorem setInbox_source (l : List Input) (s : State) : (setInbox l s).source = s.source := rfl
@[simp] theorem setInbox_adcOn (l : List Input) (s : State) : (setInbox l s).adcOn = s.adcOn := rfl
@[simp] theorem setInbox_halted (l : List Input) (s : State) : (setInbox l s).halted = s.halted := rfl
@[simp] theorem setInbox_fault (l : List Input) (s : State) : (setInbox l s).fault = s.fault := rfl
@[simp] theorem setInbox_held (l : List Input) (s : State) : (setInbox l s).held = s.held := rfl
@[simp] theorem setInbox_responses (l : List Input) (s : State) : (setInbox l s).responses = s.responses := rfl
@[simp] theorem setInbox_driverOps (l : List Input) (s : State) : (setInbox l s).driverOps = s.driverOps := rfl
@[simp] theorem setInbox_inbox (l : List Input) (s : State) : (setInbox l s).inbox = l := rfl
@[simp] theorem setInbox_acks (l : List Input) (s : State) : (setInbox l s).acks = s.acks := rfl
@[simp] theorem setInbox_ackDraws (l : List Input) (s : State) : (setInbox l s).ackDraws = s.ackDraws := rfl
@[simp] theorem setInbox_chan (l : List Input) (s : State) (c' : Channel) : (setInbox l s).chan c' = s.chan c' := by cases c' <;> rfl

/-! ### raiseFatal -/

@[simp] theorem raiseFatal_params (c : Channel) (t : Timer) (u : OcUnit) (n : Nat) (s : State) : (raiseFatal c t u n s).params = s.params := rfl
@[simp] theorem raiseFatal_ch1 (c : Channel) (t : Timer) (u : OcUnit) (n : Nat) (s : State) : (raiseFatal c t u n s).ch1 = s.ch1 := rfl
@[simp] theorem raiseFatal_ch2 (c : Channel) (t : Timer) (u : OcUnit) (n : Nat) (s : State) : (raiseFatal c t u n s).ch2 = s.ch2 := rfl
@[simp] theorem raiseFatal_source (c : Channel) (t : Timer) (u : OcUnit) (n : Nat) (s : State) : (raiseFatal c t u n s).source = s.source := rfl
@[simp] theorem raiseFatal_adcOn (c : Channel) (t : Timer) (u : OcUnit) (n : Nat) (s : State) : (raiseFatal c t u n s).adcOn = s.adcOn := rfl
@[simp] theorem raiseFatal_halted (c : Channel) (t : Timer) (u : OcUnit) (n : Nat) (s : State) : (raiseFatal c t u n s).halted = true := rfl
@[simp] theorem raiseFatal_fault (c : Channel) (t : Timer) (u : OcUnit) (n : Nat) (s : State) : (raiseFatal c t u n s).fault = ⟨true, some c, some t, some u, BitVec.ofNat 49 n⟩ := rfl
@[simp] theorem raiseFatal_held (c : Channel) (t : Timer) (u : OcUnit) (n : Nat) (s : State) : (raiseFatal c t u n s).held = none := rfl
@[simp] theorem raiseFatal_responses (c : Channel) (t : Timer) (u : OcUnit) (n : Nat) (s : State) : (raiseFatal c t u n s).responses = s.responses := rfl
@[simp] theorem raiseFatal_driverOps (c : Channel) (t : Timer) (u : OcUnit) (n : Nat) (s : State) : (raiseFatal c t u n s).driverOps = s.driverOps := rfl
@[simp] theorem raiseFatal_inbox (c : Channel) (t : Timer) (u : OcUnit) (n : Nat) (s : State) : (raiseFatal c t u n s).inbox = s.inbox := rfl
@[simp] theorem raiseFatal_acks (c : Channel) (t : Timer) (u : OcUnit) (n : Nat) (s : State) : (raiseFatal c t u n s).acks = s.acks := rfl
@[simp] theorem raiseFatal_ackDraws (c : Channel) (t : Timer) (u : OcUnit) (n : Nat) (s : State) : (raiseFatal c t u n s).ackDraws = s.ackDraws := rfl
@[simp] theorem raiseFatal_chan (c : Channel) (t : Timer) (u : OcUnit) (n : Nat) (s : State) (c' : Channel) : (raiseFatal c t u n s).chan c' = s.chan c' := by cases c' <;> rfl

/-! ### resetEntry -/

@[simp] theorem resetEntry_params (s : State) : (resetEntry s).params = s.params := rfl
@[simp] theorem resetEntry_ch1 (s : State) : (resetEntry s).ch1 = Chan.construct s.params.ch1 := rfl
@[simp] theorem resetEntry_ch2 (s : State) : (resetEntry s).ch2 = Chan.construct s.params.ch2 := rfl
@[simp] theorem resetEntry_source (s : State) : (resetEntry s).source = .battery := rfl
@[simp] theorem resetEntry_adcOn (s : State) : (resetEntry s).adcOn = false := rfl
@[simp] theorem resetEntry_halted (s : State) : (resetEntry s).halted = false := rfl
@[simp] theorem resetEntry_fault (s : State) : (resetEntry s).fault = FaultRecord.clear := rfl
@[simp] theorem resetEntry_held (s : State) : (resetEntry s).held = none := rfl
@[simp] theorem resetEntry_responses (s : State) : (resetEntry s).responses = s.responses := rfl
@[simp] theorem resetEntry_driverOps (s : State) : (resetEntry s).driverOps = s.driverOps := rfl
@[simp] theorem resetEntry_inbox (s : State) : (resetEntry s).inbox = s.inbox := rfl
@[simp] theorem resetEntry_acks (s : State) : (resetEntry s).acks = s.acks := rfl
@[simp] theorem resetEntry_ackDraws (s : State) : (resetEntry s).ackDraws = s.ackDraws := rfl

/-! ### drawAck -/

@[simp] theorem drawAck_params (s : State) : (drawAck s).2.params = s.params := by unfold drawAck; split <;> rfl
@[simp] theorem drawAck_ch1 (s : State) : (drawAck s).2.ch1 = s.ch1 := by unfold drawAck; split <;> rfl
@[simp] theorem drawAck_ch2 (s : State) : (drawAck s).2.ch2 = s.ch2 := by unfold drawAck; split <;> rfl
@[simp] theorem drawAck_source (s : State) : (drawAck s).2.source = s.source := by unfold drawAck; split <;> rfl
@[simp] theorem drawAck_adcOn (s : State) : (drawAck s).2.adcOn = s.adcOn := by unfold drawAck; split <;> rfl
@[simp] theorem drawAck_halted (s : State) : (drawAck s).2.halted = s.halted := by unfold drawAck; split <;> rfl
@[simp] theorem drawAck_fault (s : State) : (drawAck s).2.fault = s.fault := by unfold drawAck; split <;> rfl
@[simp] theorem drawAck_held (s : State) : (drawAck s).2.held = s.held := by unfold drawAck; split <;> rfl
@[simp] theorem drawAck_responses (s : State) : (drawAck s).2.responses = s.responses := by unfold drawAck; split <;> rfl
@[simp] theorem drawAck_driverOps (s : State) : (drawAck s).2.driverOps = s.driverOps := by unfold drawAck; split <;> rfl
@[simp] theorem drawAck_inbox (s : State) : (drawAck s).2.inbox = s.inbox := by unfold drawAck; split <;> rfl
@[simp] theorem drawAck_chan (s : State) (c : Channel) : (drawAck s).2.chan c = s.chan c := by cases c <;> simp

/-! ### Flow and Configured -/

@[simp] theorem Flow.state_on (s : State) : (Flow.on s).state = s := rfl
@[simp] theorem Flow.state_ended (s : State) : (Flow.ended s).state = s := rfl
@[simp] theorem Flow.on_andThen (s : State) (g : State → Flow) : (Flow.on s).andThen g = g s := rfl
@[simp] theorem Flow.ended_andThen (s : State) (g : State → Flow) : (Flow.ended s).andThen g = .ended s := rfl
@[simp] theorem Configured.state_ok (s : State) : (Configured.ok s).state = s := rfl
@[simp] theorem Configured.state_fail (s : State) : (Configured.fail s).state = s := rfl
@[simp] theorem Configured.state_raised (s : State) : (Configured.raised s).state = s := rfl

end Sys2Proof.Machine
end

