-- ==== Sys2Proof/Laws/Ops.lean ====
section
/-!
SUPPORT. Laws/Ops.lean: for each shared operation one lemma that says once everything it can do, to be cited instead of
unfolding it: the acknowledge, CONFIGURE, RECOMPUTE and the teardown, UPDATE_DUTY, FEEDBACK, taking an input, one step.
-/

namespace Sys2Proof.Machine

/-! ### Nothing but outputs and acknowledges -/

/-- From `s` to `t` nothing but driver operations emitted and acknowledges drawn. -/
abbrev OutputsAndAcks (s t : State) : Prop :=
  ∃ ops acks draws, t = { s with driverOps := s.driverOps ++ ops, acks := acks, ackDraws := draws }

theorem OutputsAndAcks.refl (s : State) : OutputsAndAcks s s := ⟨[], s.acks, s.ackDraws, by simp⟩

theorem OutputsAndAcks.trans {s t u : State} (h : OutputsAndAcks s t) (h' : OutputsAndAcks t u) : OutputsAndAcks s u := by
  obtain ⟨x, a, n, rfl⟩ := h
  obtain ⟨y, b, m, rfl⟩ := h'
  exact ⟨x ++ y, b, m, by simp⟩

theorem outputsAndAcks_emitAll (ops : List DriverOp) (s : State) : OutputsAndAcks s (emitAll ops s) :=
  ⟨ops, s.acks, s.ackDraws, rfl⟩

theorem outputsAndAcks_drawAck (s : State) : OutputsAndAcks s (drawAck s).2 := by
  unfold drawAck
  split
  · exact ⟨[], ‹List Bool›, s.ackDraws, by simp⟩
  · exact ⟨[], s.acks, s.ackDraws + 1, by simp⟩

/-! ### CONFIGURE -/

theorem outputsAndAcks_configureSingle (t : Timer) (u : OcUnit) (p : Word) (pol : Polarity) (n : Nat) (s : State) :
    OutputsAndAcks s (configureSingle t u p pol n s).2 := by
  have h := (outputsAndAcks_emitAll [.cfgOutput t u p pol (BitVec.ofNat 16 n)] s).trans (outputsAndAcks_drawAck _)
  simp only [configureSingle]
  split
  · exact h.trans (outputsAndAcks_emitAll _ _)
  · exact h

theorem outputsAndAcks_configureDual (tA : Timer) (uA : OcUnit) (tB : Timer) (uB : OcUnit) (p : Word) (na nb : Nat)
    (phase : Word) (polA polB : Polarity) (s : State) :
    OutputsAndAcks s (configureDual tA uA tB uB p na nb phase polA polB s).2 := by
  simp only [configureDual]
  have ha := outputsAndAcks_configureSingle tA uA p polA na s
  have hb := outputsAndAcks_configureSingle tB uB p polB nb (configureSingle tA uA p polA na s).2
  repeat' split
  · exact .refl s
  · exact (ha.trans hb).trans (outputsAndAcks_emitAll _ _)
  · exact ha.trans hb
  · exact ha

theorem tickOverflows_iff (n : Nat) : tickOverflows n = true ↔ 0xFFFF < n := decide_eq_true_iff

/-- CONFIGURE(c) either raises Fatal for an overflowing tick count before anything else, or leaves nothing but outputs and
acknowledges behind, whichever way it ends. -/
theorem configure_cases (c : Channel) (s : State) :
    (∃ t u d, 0xFFFF < ticks d (s.chan c).period ∧ (d = (s.chan c).duty1 ∨ d = (s.chan c).duty2) ∧
      configure c s = .raised (raiseFatal c t u (ticks d (s.chan c).period) s)) ∨
    (∃ t, OutputsAndAcks s t ∧ (configure c s = .ok t ∨ configure c s = .fail t)) := by
  have hof : ∀ r : Bool × State, configuredOf r = .ok r.2 ∨ configuredOf r = .fail r.2 := by
    rintro ⟨_ | _, _⟩ <;> simp [configuredOf]
  cases c
  · simp only [configure, variantOf, configure1]
    split
    · exact .inl ⟨_, _, _, (tickOverflows_iff _).mp ‹_›, .inl rfl, rfl⟩
    split
    · exact .inl ⟨_, _, _, (tickOverflows_iff _).mp ‹_›, .inr rfl, rfl⟩
    · exact .inr ⟨_, outputsAndAcks_configureDual .., hof _⟩
  · simp only [configure, variantOf, configure2]
    split
    · exact .inl ⟨_, _, _, (tickOverflows_iff _).mp ‹_›, .inl rfl, rfl⟩
    · exact .inr ⟨_, outputsAndAcks_configureSingle .., hof _⟩

/-! ### RECOMPUTE and the teardown -/

/-- The count after a channel's activation is set (R201 to R203). -/
theorem activeCount_setActive (c : Channel) (b : Bool) (s : State) :
    activeCount (modChan c (Chan.setActive b) s) = b.toNat + (s.chan (otherChannel c)).active.toNat := by
  cases c <;> simp [activeCount, otherChannel, Nat.add_comm]

theorem activeCount_pos_iff (s : State) : 0 < activeCount s ↔ s.ch1.active = true ∨ s.ch2.active = true := by
  unfold activeCount
  cases s.ch1.active <;> cases s.ch2.active <;> simp

theorem enable_eq (c : Channel) (k : Resumption) (rest : State → State) (s : State) :
    enable c k rest s = hold .osc k (emitAll (enableOps c ++ [.adcOscOn]) (modChan c (Chan.setActive true) s)) := by
  unfold enable acquire recompute
  rw [if_neg (by rw [activeCount_setActive]; simp)]
  cases c <;> simp [recomputeOn, hold, emit, emitAll, modChan]

/-- The teardown with the other channel active: the "on" branch, up to its first wait. -/
theorem disableAndRespond_of_active (c : Channel) (st : Status) (s : State) (h : (s.chan (otherChannel c)).active = true) :
    disableAndRespond c st s =
      hold .osc (.respond st)
        (emitAll (disableOps s.source c ++ [.adcOscOn]) (modChan c (fun ch => (ch.setMode .disabled).setActive false) s)) := by
  unfold disableAndRespond disable releaseRef recompute
  rw [if_neg (by rw [activeCount_setActive]; simp [h])]
  cases c <;> simp [recomputeOn, hold, emit, emitAll, modChan]

/-- The teardown of the last active channel: the "off" branch, then the response. -/
theorem disableAndRespond_of_inactive (c : Channel) (st : Status) (s : State) (h : (s.chan (otherChannel c)).active = false) :
    disableAndRespond c st s =
      respond st 0#32
        { emitAll (disableOps s.source c ++ [.adcPowerOff, .clkOff .tt, .adcOscOff])
            (modChan c (fun ch => (ch.setMode .disabled).setActive false) s) with adcOn := false } := by
  unfold disableAndRespond disable releaseRef recompute
  rw [if_pos (by rw [activeCount_setActive]; simp [h])]
  cases c <;> simp [recomputeOff, respond, emitAll, modChan]

/-! ### UPDATE_DUTY and FEEDBACK -/

/-- SET_DUTY_PWM: the compare value is emitted, or it overflows and Fatal is raised. -/
theorem setDutyPwm_cases (c : Channel) (t : Timer) (u : OcUnit) (p d : Word) (s : State) :
    (ticks d p ≤ 0xFFFF ∧ setDutyPwm c t u p d s = .on (emitAll [.setCompare t u (BitVec.ofNat 16 (ticks d p))] s)) ∨
      (0xFFFF < ticks d p ∧ setDutyPwm c t u p d s = .ended (raiseFatal c t u (ticks d p) s)) := by
  unfold setDutyPwm
  split
  · exact .inr ⟨(tickOverflows_iff _).mp ‹_›, rfl⟩
  · exact .inl ⟨by rw [tickOverflows_iff] at *; omega, rfl⟩

/-- Only SET_COMPARE operations, at most `n` of them. -/
abbrev OnlyCompares (n : Nat) (ops : List DriverOp) : Prop :=
  ops.length ≤ n ∧ ∀ op ∈ ops, ∃ t u x, op = .setCompare t u x

/-- UPDATE_DUTY(c) pushes compare values and goes on, or raises Fatal at the first that overflows. -/
theorem updateDuty_cases (c : Channel) (s : State) :
    (∃ ops, OnlyCompares 2 ops ∧ (c = .ch2 → ops.length ≤ 1) ∧ updateDuty c s = .on (emitAll ops s)) ∨
      (∃ ops t u d, OnlyCompares 2 ops ∧ (c = .ch2 → ops = []) ∧ 0xFFFF < ticks d (s.chan c).period ∧
        (d = (s.chan c).duty1 ∨ d = (s.chan c).duty2) ∧
        updateDuty c s = .ended (raiseFatal c t u (ticks d (s.chan c).period) (emitAll ops s))) := by
  cases c
  · simp only [updateDuty, variantOf]
    rcases setDutyPwm_cases .ch1 .ta .ua s.ch1.period s.ch1.duty1 s with ⟨_, e⟩ | ⟨h, e⟩
    · rw [e]
      simp only [Flow.andThen]
      rcases setDutyPwm_cases .ch1 .tb .ub s.ch1.period s.ch1.duty2
        (emitAll [.setCompare .ta .ua (BitVec.ofNat 16 (ticks s.ch1.duty1 s.ch1.period))] s) with ⟨_, e'⟩ | ⟨h', e'⟩
      · refine .inl ⟨[.setCompare .ta .ua (BitVec.ofNat 16 (ticks s.ch1.duty1 s.ch1.period)),
          .setCompare .tb .ub (BitVec.ofNat 16 (ticks s.ch1.duty2 s.ch1.period))], ⟨by simp, by simp⟩, by simp, e'.trans ?_⟩
        simp [emitAll]
      · exact .inr ⟨[.setCompare .ta .ua _], .tb, .ub, s.ch1.duty2, ⟨by simp, by simp⟩, by simp, h', .inr rfl, e'⟩
    · rw [e]
      exact .inr ⟨[], .ta, .ua, s.ch1.duty1, ⟨by simp, by simp⟩, by simp, h, .inl rfl, by simp [emitAll, Flow.andThen]⟩
  · simp only [updateDuty, variantOf]
    rcases setDutyPwm_cases .ch2 .tc (unitOf s.source) s.ch2.period s.ch2.duty1 s with ⟨_, e⟩ | ⟨h, e⟩
    · exact .inl ⟨[.setCompare .tc (unitOf s.source) _], ⟨by simp, by simp⟩, by simp, e⟩
    · exact .inr ⟨[], .tc, unitOf s.source, s.ch2.duty1, ⟨by simp, by simp⟩, by simp, h, .inl rfl, by simpa [emitAll] using e⟩

theorem toNat_clampDuty (d : Int) : (clampDuty d).toNat = min d.toNat 0xFFFF := by
  simp only [clampDuty, BitVec.toNat_ofInt, dutyClampMax]
  omega

/-- MIX never leaves duty2 above duty1 (R148). -/
theorem mix_ordered (err : Int) (g : GainPair) (d1 d2 : Int) : (mix err g d1 d2).2 ≤ (mix err g d1 d2).1 := by
  unfold mix invariantStep
  split
  · exact le_refl _
  · omega

/-- The working duties of a tick keep the order the registers had. -/
theorem regulate_ordered (ch : Chan) (w : Int × Int) (h : regulate ch = some w) (ho : ch.duty2.toNat ≤ ch.duty1.toNat) :
    w.2 ≤ w.1 := by
  unfold regulate at h
  split at h
  · cases h
  · cases h
  · cases h
  all_goals
    split at h
    · cases h
      simp only [halve, dutyValue]
      omega
    · cases h
      exact mix_ordered ..

/-- FEEDBACK(c) takes no action, or writes both duties, each at most 0xFFFF, and pushes the compare values. -/
theorem feedback_cases (c : Channel) (s : State) :
    (regulate (s.chan c) = none ∧ feedback c s = .on s) ∨
      (∃ w, regulate (s.chan c) = some w ∧
        feedback c s = updateDuty c (modChan c (Chan.setDuties (clampDuty w.1) (clampDuty w.2)) s)) := by
  unfold feedback
  split
  · exact .inl ⟨‹_›, rfl⟩
  · exact .inr ⟨_, ‹_›, rfl⟩

/-! ### The two commands with several ends -/

/-- What SET_DUTY does once it has stored the duties in ConstantDuty. -/
def reconfigured (c : Channel) (s : State) : State :=
  match configure c s with
  | .ok t => respond .ok 0#32 t
  | .fail t => disableAndRespond c .configFault t
  | .raised t => t

/-- SET_DUTY is rejected, stores, or stores and reconfigures. -/
theorem execSetDuty_cases (c : Channel) (d1 d2 : Word) (s : State) :
    execSetDuty c d1 d2 s = .next (respond .rejected 0#32 s) ∨
      (d2.toNat ≤ d1.toNat ∧ d1.toNat ≤ 0x10000 ∧
        (((s.chan c).mode = .disabled ∧ execSetDuty c d1 d2 s = .next (respond .ok 0#32 (modChan c (Chan.setDuties d1 d2) s))) ∨
          ((s.chan c).mode = .constantDuty ∧
            execSetDuty c d1 d2 s = .next (reconfigured c (modChan c (Chan.setDuties d1 d2) s))))) := by
  unfold execSetDuty
  by_cases ha : (!acceptsDuty (s.chan c).mode) = true
  · exact .inl (by rw [if_pos ha])
  by_cases h1 : d1.toNat < d2.toNat
  · exact .inl (by rw [if_neg ha, if_pos h1])
  by_cases h2 : fullScale < d1.toNat
  · exact .inl (by rw [if_neg ha, if_neg h1, if_pos h2])
  refine .inr ⟨by omega, by simpa [fullScale] using h2, ?_⟩
  rw [if_neg ha, if_neg h1, if_neg h2]
  simp only [modChan_chan_same, Chan.setDuties_mode]
  cases hm : (s.chan c).mode
  · exact .inl ⟨rfl, rfl⟩
  · exact .inr ⟨rfl, rfl⟩
  all_goals simp [hm, acceptsDuty] at ha

/-- SET_MODE rejects, tears down, enables, or configures. -/
theorem execSetMode_cases (c : Channel) (m : Mode) (s : State) :
    (m = .maxPower ∧ execSetMode c m s = .next (respond .rejected 0#32 s)) ∨
      (m = .disabled ∧ execSetMode c m s = .next (disableAndRespond c .ok s)) ∨
      (m ≠ .disabled ∧ m ≠ .maxPower ∧
        (((s.chan c).mode = .disabled ∧
            execSetMode c m s = .next (enable c (.configure c m) (configureAndSetMode c m) s)) ∨
          ((s.chan c).mode ≠ .disabled ∧ execSetMode c m s = .next (configureAndSetMode c m s)))) := by
  cases m <;> cases hm : (s.chan c).mode <;> simp [execSetMode, hm]

/-! ### Taking an input -/

/-- What is taken from behind waiting commands is no command, and nothing else is lost. -/
theorem firstNonCommand_some {l : List Input} {i : Input} {rest : List Input} (h : firstNonCommand l = some (i, rest)) :
    (∀ w, i ≠ .command w) ∧ ∃ before after, (∀ x ∈ before, ∃ w, x = .command w) ∧ l = before ++ i :: after ∧
      rest = before ++ after := by
  induction l generalizing rest with
  | nil => simp [firstNonCommand] at h
  | cons x l ih =>
    cases x with
    | command w =>
      simp only [firstNonCommand, Option.map_eq_some_iff] at h
      obtain ⟨⟨j, r⟩, hj, e⟩ := h
      simp only [Prod.mk.injEq] at e
      obtain ⟨rfl, rfl⟩ := e
      obtain ⟨hi, before, after, hb, rfl, rfl⟩ := ih hj
      exact ⟨hi, .command w :: before, after, by simpa using hb, rfl, rfl⟩
    | sample w | ready x | reset | resetDuring n =>
      simp only [firstNonCommand, Option.some.injEq, Prod.mk.injEq] at h
      obtain ⟨rfl, rfl⟩ := h
      exact ⟨by simp, [], l, by simp, rfl, rfl⟩

theorem firstNonCommand_append (before after : List Input) (i : Input) (hb : ∀ x ∈ before, ∃ w, x = .command w)
    (hi : ∀ w, i ≠ .command w) : firstNonCommand (before ++ i :: after) = some (i, before ++ after) := by
  induction before with
  | nil => cases i <;> simp_all [firstNonCommand]
  | cons x l ih =>
    obtain ⟨w, rfl⟩ := hb x (by simp)
    simp [firstNonCommand, ih fun y hy => hb y (by simp [hy])]

theorem firstNonCommand_none {l : List Input} (h : ∀ x ∈ l, ∃ w, x = .command w) : firstNonCommand l = none := by
  induction l with
  | nil => rfl
  | cons x l ih =>
    obtain ⟨w, rfl⟩ := h x (by simp)
    simp [firstNonCommand, ih fun y hy => h y (by simp [hy])]

/-! ### Reset during a transaction -/

theorem drawAcks_eq (n : Nat) (s : State) :
    drawAcks n s = { s with acks := s.acks.drop n, ackDraws := s.ackDraws + (n - s.acks.length) } := by
  induction n generalizing s with
  | zero => simp [drawAcks]
  | succ n ih =>
    rw [drawAcks, ih]
    unfold drawAck
    split
    · rename_i h
      simp [h]
    · rename_i h
      simp [h, Nat.add_comm, Nat.add_left_comm]

/-- A transaction cut short leaves the reset state, a part of its operations emitted and their acknowledges drawn. -/
theorem cutShort_eq (n : Nat) (s t : State) :
    let ops := (t.driverOps.drop s.driverOps.length).take n
    cutShort n s t =
      { State.construct s.params with
        responses := s.responses
        driverOps := s.driverOps ++ ops
        inbox := s.inbox
        acks := s.acks.drop (ops.countP drawsAck)
        ackDraws := s.ackDraws + (ops.countP drawsAck - s.acks.length) } := by
  simp only [cutShort, drawAcks_eq]
  rfl

/-- No instruction stops. -/
theorem exec_next (i : Instr) (s : State) : ∃ t, exec i s = .next t := by
  cases i <;> exact ⟨_, rfl⟩

theorem serveInput_next (i : Input) (s : State) : ∃ t, serveInput i s = .next t := by
  cases i with
  | command w => exact exec_next _ _
  | sample w =>
    simp only [serveInput, serveSample]
    split
    · exact ⟨_, rfl⟩
    · exact exec_next _ _
  | ready x =>
    simp only [serveInput, serveReady]
    split
    · split <;> exact ⟨_, rfl⟩
    · exact ⟨_, rfl⟩
  | reset | resetDuring n => exact ⟨_, rfl⟩

/-- From `s` to `t` a reset has happened, the inputs left being `box`: some operations emitted before it, some acknowledges drawn. -/
abbrev ResetInto (s : State) (box : List Input) (t : State) : Prop :=
  ∃ ops acks draws, t = { State.construct s.params with
    responses := s.responses, driverOps := s.driverOps ++ ops, inbox := box, acks := acks, ackDraws := draws }

/-- Reset during the next input's transaction: the inputs it leaves are those the transaction would have left. -/
theorem serveResetDuring_cases (n : Nat) (s : State) :
    ∃ t box, serveResetDuring n s = .next t ∧ ResetInto s box t ∧
      ((nextInput s = none ∧ box = s.inbox) ∨ ∃ i, nextInput s = some (i, box)) := by
  unfold serveResetDuring
  split
  · exact ⟨_, s.inbox, rfl, ⟨[], s.acks, s.ackDraws, by simp [resetEntry]⟩, .inl ⟨‹_›, rfl⟩⟩
  · rename_i i rest hn
    obtain ⟨t, e⟩ := serveInput_next i (setInbox rest s)
    simp only [e]
    exact ⟨_, rest, rfl, ⟨_, _, _, cutShort_eq n _ t⟩, .inr ⟨i, hn⟩⟩

theorem serve_next (i : Input) (s : State) : ∃ t, serve i s = .next t := by
  cases i with
  | resetDuring n =>
    obtain ⟨t, -, e, -⟩ := serveResetDuring_cases n s
    exact ⟨t, e⟩
  | command w => exact serveInput_next (.command w) s
  | sample w => exact serveInput_next (.sample w) s
  | ready x => exact serveInput_next (.ready x) s
  | reset => exact serveInput_next .reset s

/-- No step stops. -/
theorem step_next (s : State) : ∃ t, step s = .next t := by
  unfold step
  split
  · exact ⟨_, rfl⟩
  · exact serve_next _ _

/-- Everything one step can do. -/
theorem step_cases {s t : State} (h : step s = .next t) :
    (nextInput s = none ∧ t = s) ∨
    ∃ i rest, nextInput s = some (i, rest) ∧
      ((∃ w, i = .command w ∧ s.halted = false ∧ s.held = none ∧ exec (decodeCommand w) (setInbox rest s) = .next t) ∨
        (∃ w, i = .sample w ∧ ((s.halted = true ∧ t = setInbox rest s) ∨
          (s.halted = false ∧ exec (decodeSample w) (setInbox rest s) = .next t))) ∨
        (∃ x, i = .ready x ∧ (t = setInbox rest s ∨
          ∃ k, s.held = some ⟨x, k⟩ ∧ s.halted = false ∧ t = continueHeld ⟨x, k⟩ (setInbox rest s))) ∨
        (i = .reset ∧ t = resetEntry (setInbox rest s)) ∨
        (∃ n box, i = .resetDuring n ∧ ResetInto s box t ∧
          ((nextInput (setInbox rest s) = none ∧ box = rest) ∨ ∃ j, nextInput (setInbox rest s) = some (j, box)))) := by
  unfold step at h
  split at h
  · cases h
    exact .inl ⟨‹_›, rfl⟩
  · rename_i i rest hn
    refine .inr ⟨i, rest, hn, ?_⟩
    cases i with
    | command w =>
      refine .inl ⟨w, rfl, ?_⟩
      unfold nextInput at hn
      split at hn
      · exact absurd rfl ((firstNonCommand_some hn).1 w)
      · rename_i hh
        simp only [Bool.or_eq_true, not_or, Bool.not_eq_true, Option.isSome_eq_false_iff, Option.isNone_iff_eq_none] at hh
        exact ⟨hh.1, hh.2, h⟩
    | sample w =>
      refine .inr (.inl ⟨w, rfl, ?_⟩)
      simp only [serve, serveInput, serveSample] at h
      split at h
      · cases h
        exact .inl ⟨‹_›, rfl⟩
      · exact .inr ⟨Bool.not_eq_true _ ▸ ‹¬(setInbox rest s).halted = true›, h⟩
    | ready x =>
      refine .inr (.inr (.inl ⟨x, rfl, ?_⟩))
      simp only [serve, serveInput, serveReady] at h
      split at h
      · rename_i k hk
        split at h
        · rename_i hx
          cases h
          simp only [Bool.and_eq_true, decide_eq_true_eq, Bool.not_eq_true'] at hx
          obtain ⟨rfl, hr⟩ := hx
          exact .inr ⟨k.rest, hk, hr, rfl⟩
        · cases h
          exact .inl rfl
      · cases h
        exact .inl rfl
    | reset =>
      cases h
      exact .inr (.inr (.inr (.inl ⟨rfl, rfl⟩)))
    | resetDuring n =>
      obtain ⟨u, box, e, hr, hb⟩ := serveResetDuring_cases n (setInbox rest s)
      cases e.symm.trans h
      exact .inr (.inr (.inr (.inr ⟨n, box, rfl, hr, hb⟩)))

end Sys2Proof.Machine
end

