-- ==== Sys2Proof/Laws/PerInstr.lean ====
section
/-!
SUPPORT. Laws/PerInstr.lean: the per-instruction family OpcodePlacement: the encoder puts each well-formed instruction on its
row's port (30_encoding.md R70, R82) with the header bits the row of spec/opcode_table.json fixes (R71, R74).
-/

namespace Sys2Proof

/-- The opcode of an instruction's row, none for the SAMPLE row and the (reserved) row (R74). -/
def rowOpcode : Instr → Option (BitVec 8)
  | .setMode _ _ => some 0x01#8
  | .getMode _ => some 0x02#8
  | .setDuty _ _ _ => some 0x03#8
  | .getDuty1 _ => some 0x04#8
  | .getDuty2 _ => some 0x05#8
  | .setVsetpoint _ _ => some 0x06#8
  | .setIsetpoint _ _ => some 0x07#8
  | .getVsetpoint _ => some 0x08#8
  | .getIsetpoint _ => some 0x09#8
  | .getVsense _ => some 0x0A#8
  | .getIsense _ => some 0x0B#8
  | .setCh2Source _ => some 0x0C#8
  | .setPeriod _ _ => some 0x0D#8
  | .getPeriod _ => some 0x0E#8
  | .sample _ _ _ _ => none
  | .reserved _ _ _ => none

/-- What the row of an instruction demands of its port word. -/
def placedOnRow (i : Instr) : PortWord → Prop
  | .command w =>
    (∀ opc, rowOpcode i = some opc → headerOpc (cmdH w) = opc ∧ headerRsv (cmdH w) = 0#23) ∧
      (rowOpcode i = none → illegalEncoding (cmdH w) (cmdA w) = true)
  | .sample _ => ∃ v1 i1 v2 i2, i = .sample v1 i1 v2 i2

namespace Laws.OpcodePlacement

/-- The encoded word of a well-formed instruction stands on its row's port with its row's header. -/
def Statement (i : Instr) : Prop := i.wellFormed = true → placedOnRow i (encode i)

theorem placed_of_header {i : Instr} {opc : BitVec 8} {c : Channel} {a b : Word} (hr : rowOpcode i = some opc)
    (he : encode i = .command (packCommand (header opc c) a b)) : Statement i := by
  intro _
  rw [he]
  simp [placedOnRow, hr]

theorem setMode (c : Channel) (m : Mode) : Statement (.setMode c m) := placed_of_header rfl rfl
theorem getMode (c : Channel) : Statement (.getMode c) := placed_of_header rfl rfl
theorem setDuty (c : Channel) (d1 d2 : Word) : Statement (.setDuty c d1 d2) := placed_of_header rfl rfl
theorem getDuty1 (c : Channel) : Statement (.getDuty1 c) := placed_of_header rfl rfl
theorem getDuty2 (c : Channel) : Statement (.getDuty2 c) := placed_of_header rfl rfl
theorem setVsetpoint (c : Channel) (v : Word) : Statement (.setVsetpoint c v) := placed_of_header rfl rfl
theorem setIsetpoint (c : Channel) (v : Word) : Statement (.setIsetpoint c v) := placed_of_header rfl rfl
theorem getVsetpoint (c : Channel) : Statement (.getVsetpoint c) := placed_of_header rfl rfl
theorem getIsetpoint (c : Channel) : Statement (.getIsetpoint c) := placed_of_header rfl rfl
theorem getVsense (c : Channel) : Statement (.getVsense c) := placed_of_header rfl rfl
theorem getIsense (c : Channel) : Statement (.getIsense c) := placed_of_header rfl rfl
theorem setCh2Source (src : Source) : Statement (.setCh2Source src) := placed_of_header rfl rfl
theorem setPeriod (c : Channel) (ticks : Word) : Statement (.setPeriod c ticks) := placed_of_header rfl rfl
theorem getPeriod (c : Channel) : Statement (.getPeriod c) := placed_of_header rfl rfl
theorem sample (v1 i1 v2 i2 : Codepoint) : Statement (.sample v1 i1 v2 i2) := fun _ => ⟨v1, i1, v2, i2, rfl⟩

theorem reserved (h a b : Word) : Statement (.reserved h a b) := by
  intro hw
  simp only [encode, placedOnRow, cmdH_packCommand, cmdA_packCommand]
  exact ⟨by simp [rowOpcode], fun _ => hw⟩

end Laws.OpcodePlacement

end Sys2Proof
end

