-- ==== Sys2Proof/Tests/Slice0.lean ====
section
/-!
SUPPORT. Tests/Slice0.lean: the model's own tests, named theorems on fixed values: words written out from 30_encoding.md, the
ill-formed terms WellFormed refuses, vectors of 95_test_vectors.md (its names in each docstring), and one witness for every
statement of Obligations.lean that has hypotheses, at boundary values of each clause.
-/

namespace Sys2Proof.Tests

open Sys2Proof.Machine

/-! ### Small states -/

/-- The parameters 95_test_vectors.md takes for one channel. -/
def testChan : ChanConstruction := { vsenseGain := 1241#32, isenseGain := 1#32 }

/-- The parameters 95_test_vectors.md takes. -/
def testParams : Construction :=
  { ch1 := testChan, ch2 := testChan, phaseOffset := 8#32, polA := .risingFirst, polB := .risingFirst, pol2 := .risingFirst }

/-- Right after reset, every acknowledge 1 where the environment has settled it. -/
def fresh : State := { State.construct testParams with acks := [true, true] }

/-- Channel 1 as program P1 leaves it, in mode m, for a period and duties. -/
def running1 (m : Mode) (p d1 d2 : Word) : State :=
  { fresh with ch1 := { fresh.ch1 with mode := m, period := p, duty1 := d1, duty2 := d2, active := true }, adcOn := true }

/-- Channel 2 running in mode m. -/
def running2 (m : Mode) (p d1 d2 : Word) : State :=
  { fresh with ch2 := { fresh.ch2 with mode := m, period := p, duty1 := d1, duty2 := d2, active := true }, adcOn := true }

/-- A command held at a wait after ENABLE(1), channel 1 being Disabled still. -/
def holding (x : ReadyWait) : State :=
  { modChan .ch1 (Chan.setActive true) fresh with held := some ⟨x, .configure .ch1 .voltageFeedback⟩ }

/-- A halted CORE (95, K12). -/
def halted : State := raiseFatal .ch2 .tc .ubat 0x20000 fresh

/-- A command word from its three words. -/
def cmd (h a b : Word) : Input := .command (h ++ a ++ b)

/-- The state a step answers, if it does. -/
def nextState (o : Host.Outcome State Fault Refusal) : Option State :=
  match o with
  | .next t => some t
  | .fault _ => none
  | .refused _ => none

/-- What an instruction answers and emits. -/
def shows (o : Host.Outcome State Fault Refusal) : Option (List Response × List DriverOp) :=
  (nextState o).map fun t => (t.responses, t.driverOps)

/-! ### WellFormed refuses a reserved term whose word is a command -/

theorem test_wf_opcode_zero_is_reserved : (Instr.reserved 0#32 0#32 0#32).wellFormed = true := by decide
theorem test_wf_opcode_0F_is_reserved : (Instr.reserved 0x0F#32 0#32 0#32).wellFormed = true := by decide
theorem test_wf_refuses_opcode_in_range : (Instr.reserved 0x0E#32 0#32 0#32).wellFormed = false := by decide
theorem test_wf_refuses_clear_rsv : (Instr.reserved 0x102#32 0#32 0#32).wellFormed = false := by decide
theorem test_wf_refuses_source_on_channel_2 : (Instr.reserved 0x10C#32 0#32 0#32).wellFormed = false := by decide
theorem test_wf_refuses_mode_code_4 : (Instr.reserved 0x001#32 4#32 0#32).wellFormed = false := by decide
theorem test_wf_refuses_source_code_1 : (Instr.reserved 0x10C#32 1#32 0#32).wellFormed = false := by decide

/-! ### Decoding: every constructor from a word written out from R71, R74 to R76, R82 -/

theorem test_decode_setMode : decodeCommand 0x000000010000000300000000#96 = .setMode .ch1 .voltageFeedback := by decide
theorem test_decode_getMode : decodeCommand 0x00000102DEADBEEF12345678#96 = .getMode .ch2 := by decide
theorem test_decode_setDuty : decodeCommand 0x000000030000800000004000#96 = .setDuty .ch1 0x8000#32 0x4000#32 := by decide
theorem test_decode_getDuty1 : decodeCommand 0x000000040000000000000000#96 = .getDuty1 .ch1 := by decide
theorem test_decode_getDuty2 : decodeCommand 0x000001050000000000000000#96 = .getDuty2 .ch2 := by decide
theorem test_decode_setVsetpoint : decodeCommand 0x0000000600019C9300000000#96 = .setVsetpoint .ch1 105619#32 := by decide
theorem test_decode_setIsetpoint : decodeCommand 0x000001070002800000000000#96 = .setIsetpoint .ch2 0x28000#32 := by decide
theorem test_decode_getVsetpoint : decodeCommand 0x000000080000000000000000#96 = .getVsetpoint .ch1 := by decide
theorem test_decode_getIsetpoint : decodeCommand 0x000001090000000000000000#96 = .getIsetpoint .ch2 := by decide
theorem test_decode_getVsense : decodeCommand 0x0000000A0000000000000000#96 = .getVsense .ch1 := by decide
theorem test_decode_getIsense : decodeCommand 0x0000010B0000000000000000#96 = .getIsense .ch2 := by decide
theorem test_decode_setCh2Source : decodeCommand 0x0000010C0000000100000000#96 = .setCh2Source .input := by decide
theorem test_decode_setPeriod : decodeCommand 0x0000000D0000019000000000#96 = .setPeriod .ch1 400#32 := by decide
theorem test_decode_getPeriod : decodeCommand 0x0000010E0000000000000000#96 = .getPeriod .ch2 := by decide
/-- R82's example: v1 = 1800, i1 = 100, v2 = 2000, i2 = 50. -/
theorem test_decode_sample : decodeSample 0x003207D000640708#64 = .sample 1800#16 100#16 2000#16 50#16 := by decide
/-- E6. -/
theorem test_decode_rsv_bit_31 : decodeCommand 0x800000020000000000000000#96 = .reserved 0x80000002#32 0#32 0#32 := by decide
/-- E7. -/
theorem test_decode_source_on_ch1 : decodeCommand 0x0000000C0000000100000000#96 = .reserved 0x0C#32 1#32 0#32 := by decide
/-- E8, E9. -/
theorem test_decode_codes_out_of_range : decodeCommand 0x0000010C0000000200000000#96 = .reserved 0x10C#32 2#32 0#32 ∧
    decodeCommand 0x000000010000000500000000#96 = .reserved 0x01#32 5#32 0#32 := by decide
/-- E11: MaxPower decodes. -/
theorem test_decode_maxPower : decodeCommand 0x000001010000000400000000#96 = .setMode .ch2 .maxPower := by decide

/-- R53's order: byte k is bits [8k+7:8k]. -/
theorem test_bytes_little : portWordBytes (.sample 0x0807060504030201#64) = [1#8, 2#8, 3#8, 4#8, 5#8, 6#8, 7#8, 8#8] := by decide
theorem test_bytes_wrong_length : decodeCommandBytes [] = .error .commandNotTwelveBytes ∧
    decodeSampleBytes [0#8] = .error .sampleNotEightBytes := ⟨rfl, rfl⟩

/-- R87's text. -/
theorem test_text : assemblyText (.setMode .ch1 .voltageFeedback) = some "SET_MODE ch1, VoltageFeedback" := rfl

/-! ### The table's numbering and the first step after reset -/

theorem test_table_command : decodeTableWord 32 0x10E = some (.getPeriod .ch2) := by decide
theorem test_table_words_in_order : decodeTableWord 96 (0x103 + 5 * 2 ^ 32 + 6 * 2 ^ 64) = some (.setDuty .ch2 5#32 6#32) := by decide
theorem test_table_sample : decodeTableWord 64 0x003207D000640708 = some (.sample 1800#16 100#16 2000#16 50#16) := by decide
theorem test_fetch_runs_the_word : step (State.reset.withFetchWord 32 0x102) = exec (.getMode .ch2) State.reset := rfl
theorem test_fetch_runs_the_sample : step (State.reset.withFetchWord 64 0x0708) = exec (.sample 0x0708#16 0#16 0#16 0#16) State.reset := rfl

/-! ### One step of each instruction (95_test_vectors.md) -/

/-- SET_MODE out of Disabled (program P1): EN1 and ADC_OSC_ON, then the wait. -/
theorem test_setMode_enables : (nextState (exec (.setMode .ch1 .voltageFeedback) fresh)).map (fun t => (t.driverOps, t.held)) =
    some ([.vdivOn, .clkOn .ta, .clkOn .tb, .adcOscOn], some ⟨.osc, .configure .ch1 .voltageFeedback⟩) := by decide
/-- T1: a change between two running modes configures only. -/
theorem test_setMode_reconfigures : shows (exec (.setMode .ch1 .currentFeedback) (running1 .voltageFeedback 400#32 0x8000#32 0x4000#32)) =
    some ([⟨.ok, 0#32⟩],
      [.cfgOutput .ta .ua 400#32 .risingFirst 200#16, .enableOutput .ta .ua, .start .ta,
        .cfgOutput .tb .ub 400#32 .risingFirst 100#16, .enableOutput .tb .ub, .start .tb,
        .setMasterMode .ta, .setSlaveTrigger .tb .ta, .primePeriod .ta 392#32 400#32]) := by decide
theorem test_getMode : shows (exec (.getMode .ch1) (running1 .voltageFeedback 400#32 0#32 0#32)) = some ([⟨.ok, 3#32⟩], []) := by decide
/-- T9. -/
theorem test_setDuty_reconfigures : shows (exec (.setDuty .ch2 0xC000#32 0#32) (running2 .constantDuty 1000#32 0x8000#32 0x2000#32)) =
    some ([⟨.ok, 0#32⟩], [.cfgOutput .tc .ubat 1000#32 .risingFirst 750#16, .enableOutput .tc .ubat, .start .tc]) := by decide
/-- T9, W4. -/
theorem test_setDuty_rejects : shows (exec (.setDuty .ch2 0x8000#32 0x9000#32) (running2 .constantDuty 1000#32 0x8000#32 0#32)) =
    some ([⟨.rejected, 0#32⟩], []) := by decide
theorem test_getDuty1 : shows (exec (.getDuty1 .ch1) (running1 .voltageFeedback 400#32 0x80C8#32 7#32)) = some ([⟨.ok, 0x80C8#32⟩], []) := by decide
theorem test_getDuty2 : shows (exec (.getDuty2 .ch1) (running1 .voltageFeedback 400#32 0x80C8#32 7#32)) = some ([⟨.ok, 7#32⟩], []) := by decide
/-- V5 and V6: RAW = 65535 is accepted, RAW = 65536 is not. -/
theorem test_setVsetpoint_limit : (nextState (exec (.setVsetpoint .ch1 0x34CF1C#32) fresh)).map (fun t => (t.responses, t.ch1.vsetpoint)) =
    some ([⟨.ok, 0#32⟩], 0xFFFF#16) := by decide
theorem test_setVsetpoint_above_limit : (nextState (exec (.setVsetpoint .ch1 0x34CF1D#32) fresh)).map (fun t => (t.responses, t.ch1.vsetpoint)) =
    some ([⟨.rejected, 0#32⟩], 0#16) := by decide
/-- V9. -/
theorem test_setIsetpoint : (nextState (exec (.setIsetpoint .ch2 0x28000#32)
    (modChan .ch2 (fun ch => { ch with isenseGain := 100#32 }) fresh))).map (fun t => t.ch2.isetpoint) = some 250#16 := by decide
/-- V2. -/
theorem test_getVsetpoint : shows (exec (.getVsetpoint .ch1) (modChan .ch1 (Chan.setVsetpoint 2000#16) fresh)) = some ([⟨.ok, 105618#32⟩], []) := by decide
/-- V9. -/
theorem test_getIsetpoint : shows (exec (.getIsetpoint .ch2)
    (modChan .ch2 (fun ch => { ch with isenseGain := 100#32, isetpoint := 250#16 }) fresh)) = some ([⟨.ok, 0x28000#32⟩], []) := by decide
/-- V15. -/
theorem test_getVsense : shows (exec (.getVsense .ch1) (modChan .ch1 (Chan.setSenses 1800#16 0#16) fresh)) = some ([⟨.ok, 95056#32⟩], []) := by decide
/-- V17. -/
theorem test_getIsense : shows (exec (.getIsense .ch1) (modChan .ch1 (Chan.setSenses 0#16 0xFFFF#16) fresh)) = some ([⟨.ok, 0xFFFF0000#32⟩], []) := by decide
/-- T8. -/
theorem test_setCh2Source : (nextState (exec (.setCh2Source .input) fresh)).map (fun t => (t.responses, t.source)) = some ([⟨.ok, 0#32⟩], .input) := by decide
/-- T9. -/
theorem test_setCh2Source_rejects : (nextState (exec (.setCh2Source .input) (running2 .constantDuty 1000#32 0#32 0#32))).map (fun t => (t.responses, t.source)) =
    some ([⟨.rejected, 0#32⟩], .battery) := by decide
/-- T3. -/
theorem test_setPeriod_rejects : (nextState (exec (.setPeriod .ch1 500#32) (running1 .currentFeedback 400#32 0#32 0#32))).map (fun t => (t.responses, t.ch1.period)) =
    some ([⟨.rejected, 0#32⟩], 400#32) := by decide
theorem test_getPeriod : shows (exec (.getPeriod .ch1) (running1 .voltageFeedback 400#32 0#32 0#32)) = some ([⟨.ok, 400#32⟩], []) := by decide
/-- H1: the limit trip halves both duties. -/
theorem test_sample_halves : (nextState (exec (.sample 0#16 1001#16 0#16 0#16)
    (modChan .ch1 (fun ch => { ch with ilimit := 1000#16 }) (running1 .voltageFeedback 400#32 0xC000#32 0x4000#32)))).map
      (fun t => (t.ch1.duty1, t.ch1.duty2)) = some (0x6000#32, 0x2000#32) := by decide
/-- L7's sample: err = 100, gain 0xFFFF. -/
theorem test_sample_mixes : (nextState (exec (.sample 0#16 0#16 100#16 0#16) (running2 .voltageFeedback 1000#32 0x8000#32 0#32))).map
    (fun t => (t.ch2.duty1, t.driverOps)) = some (32669#32, [.setCompare .tc .ubat 498#16]) := by decide
/-- E1. -/
theorem test_reserved : shows (exec (.reserved 0#32 0#32 0#32) fresh) = some ([⟨.illegal, 0#32⟩], []) := by decide

/-- W8 on channel 2's CONFIGURE (program P3): the record holds 0x20000, not its low 16 bits. -/
theorem test_fatal_keeps_the_count : (configure .ch2 (running2 .constantDuty 0x20000#32 0x10000#32 0#32)).state.fault =
    ⟨true, some .ch2, some .tc, some .ubat, 0x20000#49⟩ := by decide
/-- T12. -/
theorem test_disabled_to_disabled : shows (exec (.setMode .ch1 .disabled) fresh) =
    some ([⟨.ok, 0#32⟩], [.disableOutput .ta .ua, .disableOutput .tb .ub, .stop .ta, .stop .tb, .clkOff .ta, .clkOff .tb, .vdivOff,
      .adcPowerOff, .clkOff .tt, .adcOscOff]) := by decide
/-- R8. -/
theorem test_zero_gain_is_refused : State.constructChecked { testParams with ch2 := { testChan with isenseGain := 0#32 } } = .refused .zeroSenseGain := rfl

/-- M3 to M22, the rows at the boundaries of the branch table's conditions (95_test_vectors.md 2.1). -/
theorem test_mix_rows :
    mix (-1) ⟨0x10000#32, 0x10000#32⟩ 0xF831 0xF831 = (32768, 32768) ∧ mix (-1) ⟨0x10000#32, 0x10000#32⟩ 0xF830 0xF830 = (63536, 63535) ∧
    mix (-50) ⟨0x10000#32, 0x10000#32⟩ 0xF831 0xF830 = (63537, 63537) ∧ mix 500 ⟨0x10000#32, 0x10000#32⟩ 1999 1000 = (1999, 500) ∧
    mix 500 ⟨0x10000#32, 0x10000#32⟩ 2000 1000 = (1500, 1000) ∧ mix (-300) ⟨0x10000#32, 0x10000#32⟩ 0x8000 2001 = (32768, 1701) ∧
    mix (-300) ⟨0x10000#32, 0x10000#32⟩ 0x8000 2000 = (33068, 2000) ∧ mix 0 ⟨0x10000#32, 0x10000#32⟩ 0xF900 0xF900 = (63744, 63744) ∧
    mix (-1) ⟨0x18000#32, 0x18000#32⟩ 0x8000 0 = (32770, 0) ∧ mix (-100) ⟨0xFFFF0000#32, 0xFFFF0000#32⟩ 0x8000 0 = (32668, 0) := by decide

/-! ### Witnesses: the hypotheses of each statement, met by concrete values at the boundaries of its clauses -/

theorem witness_DecodeOfEncodeIsTheInstruction :
    (Instr.setMode .ch2 .maxPower).wellFormed = true ∧ (Instr.reserved 0x0F#32 0#32 0#32).wellFormed = true := by decide

theorem witness_StepRunsTheAcceptedCommand :
    AcceptsCommand (setInbox [cmd 0x102#32 0#32 0#32] fresh) ∧
      (setInbox [cmd 0x102#32 0#32 0#32] fresh).inbox = .command 0x000001020000000000000000#96 :: [] ∧
      (Instr.getMode .ch2).wellFormed = true ∧ decodeCommand 0x000001020000000000000000#96 = .getMode .ch2 := by decide

theorem witness_StepRunsTheDeliveredSample_idle :
    Running (setInbox [.sample 0x708#64] fresh) ∧ (setInbox [.sample 0x708#64] fresh).inbox = [] ++ .sample 0x708#64 :: [] := by decide

/-- A command waits before the sample, CORE holding. -/
theorem witness_StepRunsTheDeliveredSample_held :
    let s := setInbox [cmd 2#32 0#32 0#32, .sample 0x708#64] (holding .osc)
    Running s ∧ s.inbox = [cmd 2#32 0#32 0#32] ++ .sample 0x708#64 :: [] ∧ (∀ x ∈ [cmd 2#32 0#32 0#32], isCommand x = true) ∧
      s.held.isSome = true := by decide

theorem witness_CommandsWaitWhileHeldOrHalted :
    let s := setInbox [cmd 2#32 0#32 0#32] (holding .adc)
    let u := setInbox [cmd 2#32 0#32 0#32] halted
    (s.held.isSome = true ∧ ∀ x ∈ s.inbox, isCommand x = true) ∧ (u.halted = true ∧ ∀ x ∈ u.inbox, isCommand x = true) := by decide

theorem witness_HaltedCoreIgnoresAllButReset :
    let s := setInbox [cmd 2#32 0#32 0#32, .sample 5#64, .ready .osc] halted
    s.halted = true ∧ ∀ x ∈ s.inbox, isReset x = false := by decide

/-- Nothing before the reset; a command before it while another is held; a command before it while halted. -/
theorem witness_ResetInputRestoresTheResetState :
    (setInbox [.reset] fresh).inbox = [] ++ .reset :: [] ∧ (∀ x ∈ [cmd 2#32 0#32 0#32], isCommand x = true) ∧
      (let s := setInbox [cmd 2#32 0#32 0#32, .reset] (holding .osc)
       s.inbox = [cmd 2#32 0#32 0#32] ++ .reset :: [] ∧ s.held.isSome = true) ∧
      (let s := setInbox [cmd 2#32 0#32 0#32, .reset] halted
       s.inbox = [cmd 2#32 0#32 0#32] ++ .reset :: [] ∧ s.halted = true) := by decide

/-- Cuts of a command inside its operations (2 of 4 are out) and behind the last. -/
theorem witness_ResetDuringATransactionLeavesAPrefixOfItsTrace :
    let w : BitVec 96 := 0x000000010000000300000000#96
    AcceptsCommand (setInbox [.resetDuring 2, .command w] fresh) ∧
      (nextState (exec (decodeCommand w) { fresh with inbox := [] })).map (·.driverOps.length) = some 4 ∧
      (nextState (step (setInbox [.resetDuring 2, .command w] fresh))).map (fun t => (t.driverOps, t.ch1.active, t.held)) =
        some ([.vdivOn, .clkOn .ta], false, none) ∧
      (nextState (step (setInbox [.resetDuring 9, .command w] fresh))).map (fun t => (t.driverOps.length, t.responses)) = some (4, []) := by
  decide

/-- Cuts of a SAMPLE before its SET_COMPARE, and of the part that READY(ADC) lets go on, behind the first of its acknowledges. -/
theorem witness_ResetDuringATransaction_sample_and_ready :
    let s := running2 .voltageFeedback 1000#32 0x8000#32 0#32
    let h := { holding .adc with ch1 := { (holding .adc).ch1 with period := 400#32 } }
    (nextState (step (setInbox [.resetDuring 0, .sample 100#64] s))).map (fun t => (t.driverOps, t.inbox, t.ch2.duty1)) =
        some ([], [], 0#32) ∧
      (nextState (step (setInbox [.resetDuring 7, .ready .adc] h))).map (fun t => (t.driverOps.length, t.acks, t.held, t.responses)) =
        some (7, [true], none, []) := by
  decide

/-- A reset during a transaction that is itself a reset of the one behind it. -/
theorem witness_ResetDuringATransaction_reset :
    nextInput { setInbox [.resetDuring 3, .resetDuring 0, .ready .osc] fresh with inbox := [.resetDuring 0, .ready .osc] } =
        some (.resetDuring 0, [.ready .osc]) ∧
      nextInput { setInbox [.resetDuring 3, .resetDuring 0] halted with inbox := [.resetDuring 0] } = some (.resetDuring 0, []) := by
  decide

/-- The current gain is 1, the least. -/
theorem witness_PhysicalReadsRespondWithTheInverseConversion :
    (fresh.chan .ch1).vsenseGain ≠ 0#32 ∧ (fresh.chan .ch1).isenseGain ≠ 0#32 ∧ (fresh.chan .ch1).isenseGain = 1#32 := by decide

/-- V5 and V6. -/
theorem witness_SetVsetpointStoresOrRejects :
    0x34CF1C * (fresh.chan .ch1).vsenseGain.toNat / 65536 = (fresh.chan .ch1).ilimit.toNat ∧
      0x34CF1D * (fresh.chan .ch1).vsenseGain.toNat / 65536 = (fresh.chan .ch1).ilimit.toNat + 1 := by decide

/-- V10, and the same value against a limit one lower. -/
theorem witness_SetIsetpointStoresOrRejects :
    0xFFFFFFFF * (fresh.chan .ch1).isenseGain.toNat / 65536 = (fresh.chan .ch1).vlimit.toNat ∧
      (0xFFFE#16).toNat < 0xFFFFFFFF * (fresh.chan .ch1).isenseGain.toNat / 65536 := by decide

/-- V3: the largest v that stores 2000, gain 1241; and the current setpoint with gain 1. -/
theorem witness_SetpointRoundTripStaysWithinOneCodepoint :
    ((nextState (exec (.setVsetpoint .ch1 105670#32) fresh)).bind fun t => shows (exec (.getVsetpoint .ch1) t)) =
        some ([⟨.ok, 0#32⟩, ⟨.ok, 105618#32⟩], []) ∧
      ((nextState (exec (.setIsetpoint .ch1 0x2FFFF#32) fresh)).bind fun t => shows (exec (.getIsetpoint .ch1) t)) =
        some ([⟨.ok, 0#32⟩, ⟨.ok, 0x20000#32⟩], []) := by decide

theorem witness_SetPeriodOnlyWhileDisabled :
    (fresh.chan .ch1).mode = .disabled ∧ ((running1 .constantDuty 400#32 0#32 0#32).chan .ch1).mode ≠ .disabled := by decide

theorem witness_SetCh2SourceOnlyWhileDisabled :
    fresh.ch2.mode = .disabled ∧ (running2 .voltageFeedback 400#32 0#32 0#32).ch2.mode ≠ .disabled := by decide

theorem witness_SetDutyRejections :
    (((running1 .voltageFeedback 400#32 0#32 0#32).chan .ch1).mode ≠ .disabled ∧
        ((running1 .voltageFeedback 400#32 0#32 0#32).chan .ch1).mode ≠ .constantDuty) ∧
      (0x8000#32).toNat < (0x8001#32).toNat ∧ 0x10000 < (0x10001#32).toNat := by decide

theorem witness_SetDutyStoresWhileDisabled :
    (fresh.chan .ch1).mode = .disabled ∧ (0x10000#32).toNat ≤ (0x10000#32).toNat ∧ (0x10000#32).toNat ≤ 0x10000 := by decide

theorem witness_SetDutyReconfiguresInConstantDuty :
    ((running2 .constantDuty 1000#32 0#32 0#32).chan .ch2).mode = .constantDuty ∧ (0#32).toNat ≤ (0x10000#32).toNat ∧
      (0x10000#32).toNat ≤ 0x10000 := by decide

theorem witness_SetModeFromDisabledEnablesAndHolds :
    (fresh.chan .ch2).mode = .disabled ∧ Mode.constantDuty ≠ .disabled ∧ Mode.constantDuty ≠ .maxPower := by decide

theorem witness_SetModeFromRunningReconfigures :
    ((running1 .voltageFeedback 400#32 0#32 0#32).chan .ch1).mode ≠ .disabled ∧ Mode.currentFeedback ≠ .disabled ∧
      Mode.currentFeedback ≠ .maxPower := by decide

/-- Channel 2's clauses: a count of 0x10000 (K8), a count of 0xFFFF (K7) with the acknowledge 1 and 0. -/
theorem witness_ConfigureFollowsItsRule_ch2 :
    0x10000 * 0x10000 / 65536 = 0xFFFF + 1 ∧ 0x10000 * 0xFFFF / 65536 = 0xFFFF ∧
      (drawAck { fresh with acks := [true] }).1 = true ∧ (drawAck { fresh with acks := [false] }).1 = false := by decide

/-- Channel 1's clauses: duty1's count overflows (T11); only duty2's does; the phase offset equals the period (T5), and is one below
it; timer A's acknowledge 0; timer B's. -/
theorem witness_ConfigureFollowsItsRule_ch1 :
    (configure1 (running1 .constantDuty 0x10000#32 0x10000#32 0#32)).state.fault.unit = some .ua ∧
      (configure1 (running1 .constantDuty 0x10000#32 0#32 0x10000#32)).state.fault.unit = some .ub ∧
      configure1 (running1 .constantDuty 8#32 0#32 0#32) = .fail (running1 .constantDuty 8#32 0#32 0#32) ∧
      (configure1 (running1 .constantDuty 9#32 0#32 0#32)).state.acks = [] ∧
      (configure1 { running1 .constantDuty 9#32 0#32 0#32 with acks := [false, true] }).state.acks = [true] ∧
      (configure1 { running1 .constantDuty 9#32 0#32 0#32 with acks := [true, false] }).state.driverOps.length = 4 := by decide

theorem witness_ReadyOscPowersTheAdc :
    let s := setInbox [cmd 2#32 0#32 0#32, .ready .osc] (holding .osc)
    Running s ∧ s.held = some ⟨.osc, .configure .ch1 .voltageFeedback⟩ ∧ s.inbox = [cmd 2#32 0#32 0#32] ++ .ready .osc :: [] ∧
      (∀ x ∈ [cmd 2#32 0#32 0#32], isCommand x = true) := by decide

theorem witness_ReadyAdcFinishesTheSequence :
    let s := setInbox [.ready .adc] (holding .adc)
    Running s ∧ s.held = some ⟨.adc, .configure .ch1 .voltageFeedback⟩ ∧ s.inbox = [] ++ .ready .adc :: [] := by decide

theorem witness_UnawaitedReadyChangesNothing :
    (setInbox [.ready .adc] (holding .osc)).inbox = .ready .adc :: [] ∧ (∀ h, (holding .osc).held = some h → h.wait ≠ .adc) := by
  refine ⟨rfl, fun h e => ?_⟩
  cases e
  decide

theorem witness_SampleInIdleModesOnlyWritesSenses :
    idleMode (running2 .constantDuty 400#32 0x10000#32 0#32).ch1.mode ∧ idleMode (running2 .constantDuty 400#32 0x10000#32 0#32).ch2.mode :=
  ⟨.inl rfl, .inr (.inl rfl)⟩

/-- duty2 equal to duty1; and channel 1 fatal with channel 2 in a feedback mode (the skipped case). -/
theorem witness_FeedbackKeepsDuty2BelowDuty1 :
    let s := running2 .voltageFeedback 1000#32 0x8000#32 0x8000#32
    let u := { s with ch1 := (running1 .currentFeedback 0x10002#32 0xFFFF#32 0#32).ch1 }
    (Running s ∧ (s.chan .ch2).mode = .voltageFeedback ∧ (s.chan .ch2).duty2.toNat ≤ (s.chan .ch2).duty1.toNat ∧
        (nextState (exec (.sample 0#16 0#16 100#16 0#16) s)).map (·.halted) = some false) ∧
      (Running u ∧ (u.chan .ch2).mode = .voltageFeedback ∧ (u.chan .ch2).duty2.toNat ≤ (u.chan .ch2).duty1.toNat ∧
        (nextState (exec (.sample 0#16 0#16 100#16 0#16) u)).map (fun t => (t.halted, t.fault.channel)) = some (true, some .ch1)) := by
  decide

theorem witness_SampleIsBoundedAndSilent :
    (nextState (exec (.sample 0#16 0#16 0#16 0#16) (running2 .voltageFeedback 0x10002#32 0x10000#32 0#32))).map
      (fun t => (t.halted, t.held)) = some (true, none) := by decide

theorem running1_keeps_invariant : CoreInv (running1 .voltageFeedback 0xFFFF#32 0x10000#32 0x10000#32) :=
  ⟨by decide, by decide, by decide, fun _ => show (ActiveMatchesMode _ ∧ ActiveMatchesMode _) ∧ (_ ↔ _) by decide⟩

theorem holding_keeps_invariant (x : ReadyWait) : CoreInv (holding x) := by
  cases x <;> exact ⟨by decide, by decide, by decide, fun _ => show (_ ∧ _) ∧ ActiveMatchesMode _ ∧ (_ ∧ _) by decide⟩

theorem witness_EveryStepKeepsTheInvariant :
    CoreInv (holding .osc) ∧ (nextState (step (holding .osc))).isSome = true ∧
      (nextState (step (setInbox [.ready .osc] (holding .osc)))).map (·.held) =
        some (some ⟨.adc, .configure .ch1 .voltageFeedback⟩) := ⟨holding_keeps_invariant _, by decide, by decide⟩

theorem witness_EveryStepKeepsTheConstruction :
    HoldsConstruction (setInbox [.sample 0#64] fresh) ∧ (nextState (step (setInbox [.sample 0#64] fresh))).isSome = true := by decide

theorem witness_EveryStepKeepsSetpointsWithinLimits :
    let s := setInbox [cmd 0x106#32 0x34CF1C#32 0#32] (modChan .ch1 (Chan.setVsetpoint 0xFFFF#16) fresh)
    SetpointsWithinLimits s ∧ (nextState (step s)).map (·.ch2.vsetpoint) = some 0xFFFF#16 := by
  refine ⟨fun c => ?_, by decide⟩
  cases c <;> decide

theorem witness_PeriodsUpTo0xFFFFNeverHalt :
    CoreInv (running1 .voltageFeedback 0xFFFF#32 0x10000#32 0x10000#32) ∧
      PeriodsFit (running1 .voltageFeedback 0xFFFF#32 0x10000#32 0x10000#32) ∧
      Running (running1 .voltageFeedback 0xFFFF#32 0x10000#32 0x10000#32) := ⟨running1_keeps_invariant, by decide, rfl⟩

/-- K7, K8, K10, K11, K14 and K13. -/
theorem witness_TickOverflowBoundaries :
    (tickOverflows (ticks 0x10000#32 0xFFFF#32) = false ∧ tickOverflows (ticks 0x10000#32 0x10000#32) = true) ∧
      (tickOverflows (ticks 0xFFFF#32 0x10001#32) = false ∧ tickOverflows (ticks 0xFFFF#32 0x10002#32) = true) ∧
      (tickOverflows (ticks 0x7FFF#32 0x20000#32) = false ∧ tickOverflows (ticks 0x8000#32 0x20000#32) = true) := by decide

theorem witness_RejectedAndIllegalChangeNothing :
    shows (exec (.setMode .ch1 .maxPower) fresh) = some (fresh.responses ++ [⟨.rejected, 0#32⟩], []) ∧
      shows (exec (.reserved 0x0F#32 0#32 0#32) fresh) = some (fresh.responses ++ [⟨.illegal, 0#32⟩], []) := by decide

theorem witness_OutputsOnlyGrowByAtMostOneResponse :
    (nextState (step (setInbox [cmd 2#32 0#32 0#32] fresh))).map (·.responses) = some [⟨.ok, 0#32⟩] := by decide

/-- SET_MODE changes a mode, SET_DUTY brings a channel to Disabled, and a held SET_MODE changes a mode. -/
theorem witness_OnlySetModeLeavesDisabled :
    (nextState (exec (.setMode .ch1 .currentFeedback) (running1 .voltageFeedback 400#32 0#32 0#32))).map (·.ch1.mode) = some .currentFeedback ∧
      (nextState (exec (.setDuty .ch1 0#32 0#32) (running1 .constantDuty 8#32 0#32 0#32))).map (·.ch1.mode) = some .disabled ∧
      (continueHeld ⟨.adc, .configure .ch2 .constantDuty⟩ (modChan .ch2 (Chan.setActive true) fresh)).ch2.mode = .constantDuty := by decide

theorem witness_CommandsLeaveTheOtherChannelAlone :
    addressedChannel (.setPeriod .ch2 400#32) = some .ch2 ∧ shows (exec (.setPeriod .ch2 400#32) fresh) = some ([⟨.ok, 0#32⟩], []) ∧
      (∀ src, Instr.setPeriod .ch2 400#32 ≠ .setCh2Source src) := ⟨rfl, by decide, fun _ h => nomatch h⟩

theorem witness_PolarityOnlyShowsInCfgOutput :
    (nextState (step (setInbox [cmd 0x103#32 5#32 0#32] (running2 .constantDuty 400#32 0#32 0#32)))).map (·.driverOps.length) = some 3 := by decide

/-- T5's failure in SET_DUTY with the other channel inactive (answered at once), and in SET_MODE with it active (still owed). -/
theorem witness_ConfigFaultLeavesTheChannelDisabled :
    let s := running1 .constantDuty 8#32 0#32 0#32
    let u := modChan .ch2 (Chan.setActive true) s
    (addressedChannel (.setDuty .ch1 0#32 0#32) = some .ch1 ∧ s.held = none ∧
        shows (exec (.setDuty .ch1 0#32 0#32) s) =
          some (s.responses ++ [⟨.configFault, 0#32⟩], disableOps s.source .ch1 ++ [.adcPowerOff, .clkOff .tt, .adcOscOff])) ∧
      (addressedChannel (.setMode .ch1 .voltageFeedback) = some .ch1 ∧ u.held = none ∧
        (nextState (exec (.setMode .ch1 .voltageFeedback) u)).map (·.held) = some (some ⟨.osc, .respond .configFault⟩)) := by decide

/-- The form that goes on after READY(ADC): period 8 with the phase offset 8, the other channel inactive, then active. -/
theorem witness_ConfigFaultLeavesTheChannelDisabled_afterReady :
    let s := setInbox [.ready .adc] (modChan .ch1 (fun ch => { ch with period := 8#32 }) (holding .adc))
    let u := modChan .ch2 (Chan.setActive true) s
    (Running s ∧ s.held = some ⟨.adc, .configure .ch1 .voltageFeedback⟩ ∧ s.inbox = [] ++ .ready .adc :: [] ∧
        (nextState (step s)).map (·.responses) = some (s.responses ++ [⟨.configFault, 0#32⟩])) ∧
      (Running u ∧ u.held = some ⟨.adc, .configure .ch1 .voltageFeedback⟩ ∧ u.inbox = [] ++ .ready .adc :: [] ∧
        (nextState (step u)).map (·.held) = some (some ⟨.osc, .respond .configFault⟩)) := by decide

/-- Bytes 0 and 11 of a command word, one byte too few and one too many, and R82's example at a fresh CORE. -/
theorem witness_DeliveredBytesReachTheirPort :
    (deliverSampleBytes [0x08#8, 0x07#8, 0x64#8, 0#8, 0xD0#8, 0x07#8, 0x32#8, 0#8] fresh).toOption.map (·.inbox) =
        some [.sample 0x003207D000640708#64] ∧
      ((portWordBytes (.command 0x0B0000000000000000000001#96))[0]? = some 1#8 ∧
        (portWordBytes (.command 0x0B0000000000000000000001#96))[11]? = some 0x0B#8) ∧
      (List.replicate 11 (0#8 : Byte)).length ≠ 12 ∧ (List.replicate 9 (0#8 : Byte)).length ≠ 8 := by decide

end Sys2Proof.Tests
end

namespace Sys2Proof.Machine

/-!
The construction parameters are fixed for the whole run (R8, R59), and so are the registers that hold them (R26, R28, R29). Both
are read off a state at once by `constructionOf`. Every shared operation leaves it alone, by one `@[simp]` equation each, so
every transaction does; reset loads the registers from the parameters again, which changes nothing where they held them.
-/

/-- The part of a state that is fixed at construction: the parameters, and both channels' constant registers. -/
def constructionOf (s : State) :=
  (s.params, constantsOf s.ch1, constantsOf s.ch2)

theorem constructionOf_eq_iff (s t : State) :
    constructionOf t = constructionOf s ↔
      t.params = s.params ∧ constantsOf t.ch1 = constantsOf s.ch1 ∧ constantsOf t.ch2 = constantsOf s.ch2 := by
  simp [constructionOf]

/-- To hold the parameters is to have the constants of a channel just constructed from them. -/
theorem holdsParameters_iff (p : ChanConstruction) (ch : Chan) :
    HoldsParameters p ch ↔ constantsOf ch = constantsOf (Chan.construct p) := by
  simp only [HoldsParameters, constantsOf, Chan.construct, Prod.mk.injEq]
  tauto

theorem holdsConstruction_iff (s : State) :
    HoldsConstruction s ↔ constructionOf (State.construct s.params) = constructionOf s := by
  simp [HoldsConstruction, holdsParameters_iff, constructionOf_eq_iff, State.construct, eq_comm]

/-- Whether the construction is held shows in `constructionOf` alone. -/
theorem holdsConstruction_of_eq {s t : State} (h : constructionOf t = constructionOf s) (hs : HoldsConstruction s) :
    HoldsConstruction t := by
  have hp : t.params = s.params := ((constructionOf_eq_iff s t).mp h).1
  rw [holdsConstruction_iff] at hs ⊢
  rw [hp, hs, h]

/-! ### Channel registers -/

@[simp] theorem constantsOf_setMode (m : Mode) (ch : Chan) : constantsOf (ch.setMode m) = constantsOf ch := by
  simp [constantsOf]
@[simp] theorem constantsOf_setPeriod (p : Word) (ch : Chan) : constantsOf (ch.setPeriod p) = constantsOf ch := by
  simp [constantsOf]
@[simp] theorem constantsOf_setDuties (d1 d2 : Word) (ch : Chan) : constantsOf (ch.setDuties d1 d2) = constantsOf ch := by
  simp [constantsOf]
@[simp] theorem constantsOf_setSenses (v i : Codepoint) (ch : Chan) : constantsOf (ch.setSenses v i) = constantsOf ch := by
  simp [constantsOf]
@[simp] theorem constantsOf_setVsetpoint (v : Codepoint) (ch : Chan) : constantsOf (ch.setVsetpoint v) = constantsOf ch := by
  simp [constantsOf]
@[simp] theorem constantsOf_setIsetpoint (i : Codepoint) (ch : Chan) : constantsOf (ch.setIsetpoint i) = constantsOf ch := by
  simp [constantsOf]
@[simp] theorem constantsOf_setActive (b : Bool) (ch : Chan) : constantsOf (ch.setActive b) = constantsOf ch := by
  simp [constantsOf]

/-! ### Shared operations -/

@[simp] theorem constructionOf_modChan (c : Channel) (f : Chan → Chan) (s : State)
    (hf : ∀ ch, constantsOf (f ch) = constantsOf ch) : constructionOf (modChan c f s) = constructionOf s := by
  cases c <;> simp [constructionOf, hf]

@[simp] theorem constructionOf_emitAll (ops : List DriverOp) (s : State) :
    constructionOf (emitAll ops s) = constructionOf s := rfl
@[simp] theorem constructionOf_emit (op : DriverOp) (s : State) : constructionOf (emit op s) = constructionOf s := rfl
@[simp] theorem constructionOf_respond (st : Status) (d : Word) (s : State) :
    constructionOf (respond st d s) = constructionOf s := rfl
@[simp] theorem constructionOf_hold (x : ReadyWait) (k : Resumption) (s : State) :
    constructionOf (hold x k s) = constructionOf s := rfl
@[simp] theorem constructionOf_setInbox (l : List Input) (s : State) : constructionOf (setInbox l s) = constructionOf s := rfl
@[simp] theorem constructionOf_raiseFatal (c : Channel) (t : Timer) (u : OcUnit) (n : Nat) (s : State) :
    constructionOf (raiseFatal c t u n s) = constructionOf s := rfl
@[simp] theorem constructionOf_recomputeAfterOsc (k : Resumption) (s : State) :
    constructionOf (recomputeAfterOsc k s) = constructionOf s := rfl
@[simp] theorem constructionOf_recomputeAfterAdc (s : State) :
    constructionOf (recomputeAfterAdc s) = constructionOf s := rfl

theorem OutputsAndAcks.constructionOf_eq {s t : State} (h : OutputsAndAcks s t) : constructionOf t = constructionOf s := by
  obtain ⟨_, _, _, rfl⟩ := h
  rfl

/-! ### The parts of a transaction -/

@[simp] theorem constructionOf_configure (c : Channel) (s : State) :
    constructionOf (configure c s).state = constructionOf s := by
  rcases configure_cases c s with ⟨_, _, _, _, _, e⟩ | ⟨t, ht, e | e⟩
  · simp [e]
  · simpa [e] using ht.constructionOf_eq
  · simpa [e] using ht.constructionOf_eq

@[simp] theorem constructionOf_enable (c : Channel) (k : Resumption) (rest : State → State) (s : State) :
    constructionOf (enable c k rest s) = constructionOf s := by
  simp [enable_eq]

@[simp] theorem constructionOf_disableAndRespond (c : Channel) (st : Status) (s : State) :
    constructionOf (disableAndRespond c st s) = constructionOf s := by
  cases h : (s.chan (otherChannel c)).active with
  | true => simp [disableAndRespond_of_active c st s h]
  | false =>
    have hAdc (u : State) (b : Bool) : constructionOf { u with adcOn := b } = constructionOf u := rfl
    rw [disableAndRespond_of_inactive c st s h, constructionOf_respond, hAdc]
    simp

@[simp] theorem constructionOf_configureAndSetMode (c : Channel) (m : Mode) (s : State) :
    constructionOf (configureAndSetMode c m s) = constructionOf s := by
  have h := constructionOf_configure c s
  unfold configureAndSetMode
  cases e : configure c s <;> simpa [e] using h

@[simp] theorem constructionOf_reconfigured (c : Channel) (s : State) :
    constructionOf (reconfigured c s) = constructionOf s := by
  have h := constructionOf_configure c s
  unfold reconfigured
  cases e : configure c s <;> simpa [e] using h

@[simp] theorem constructionOf_continueHeld (h : Held) (s : State) :
    constructionOf (continueHeld h s) = constructionOf s := by
  obtain ⟨_ | _, _ | _⟩ := h <;> simp [continueHeld, resume]

@[simp] theorem constructionOf_updateDuty (c : Channel) (s : State) :
    constructionOf (updateDuty c s).state = constructionOf s := by
  rcases updateDuty_cases c s with ⟨_, _, _, e⟩ | ⟨_, _, _, _, _, _, _, _, e⟩ <;> simp [e]

@[simp] theorem constructionOf_feedback (c : Channel) (s : State) :
    constructionOf (feedback c s).state = constructionOf s := by
  rcases feedback_cases c s with ⟨_, e⟩ | ⟨_, _, e⟩ <;> simp [e]

/-- A procedure and the next one, each leaving the construction alone. -/
theorem constructionOf_andThen (f : Flow) (g : State → Flow) (hg : ∀ s, constructionOf (g s).state = constructionOf s) :
    constructionOf (f.andThen g).state = constructionOf f.state := by
  cases f <;> simp [hg]

/-! ### Every instruction, every step -/

/-- No transaction changes what is fixed at construction. -/
theorem exec_constructionOf {i : Instr} {s t : State} (h : exec i s = .next t) : constructionOf t = constructionOf s := by
  cases i with
  | setMode c m =>
    change execSetMode c m s = .next t at h
    rcases execSetMode_cases c m s with ⟨_, e⟩ | ⟨_, e⟩ | ⟨_, _, ⟨_, e⟩ | ⟨_, e⟩⟩ <;> cases e.symm.trans h <;> simp
  | setDuty c d1 d2 =>
    change execSetDuty c d1 d2 s = .next t at h
    rcases execSetDuty_cases c d1 d2 s with e | ⟨_, _, ⟨_, e⟩ | ⟨_, e⟩⟩ <;> cases e.symm.trans h <;> simp
  | setVsetpoint c v | setIsetpoint c v | setPeriod c p =>
    cases h
    split <;> simp
  | setCh2Source src =>
    cases h
    split <;> rfl
  | sample v1 i1 v2 i2 =>
    cases h
    simp [constructionOf_andThen, writeSenses]
  | getMode c | getDuty1 c | getDuty2 c | getVsetpoint c | getIsetpoint c | getVsense c | getIsense c | getPeriod c
  | reserved _ _ _ =>
    cases h
    rfl

/-- A reset loads the constant registers from the parameters, which they held already. -/
theorem ResetInto.constructionOf_eq {s t : State} {box : List Input} (h : ResetInto s box t) (hs : HoldsConstruction s) :
    constructionOf t = constructionOf s := by
  obtain ⟨_, _, _, rfl⟩ := h
  exact (holdsConstruction_iff s).mp hs

theorem resetInto_resetEntry (s : State) : ResetInto s s.inbox (resetEntry s) :=
  ⟨[], s.acks, s.ackDraws, by simp [resetEntry]⟩

/-- No step changes what is fixed at construction, where the registers hold it. -/
theorem step_constructionOf {s t : State} (hs : HoldsConstruction s) (h : step s = .next t) :
    constructionOf t = constructionOf s := by
  rcases step_cases h with ⟨_, rfl⟩ | ⟨_, rest, _, hi⟩
  · rfl
  have hbox : constructionOf (setInbox rest s) = constructionOf s := constructionOf_setInbox rest s
  obtain hcommand | hsample | hready | hreset | hduring := hi
  · obtain ⟨_, _, _, _, e⟩ := hcommand
    exact (exec_constructionOf e).trans hbox
  · obtain ⟨_, _, ⟨_, rfl⟩ | ⟨_, e⟩⟩ := hsample
    · exact hbox
    · exact (exec_constructionOf e).trans hbox
  · obtain ⟨_, _, rfl | ⟨_, _, _, rfl⟩⟩ := hready
    · exact hbox
    · exact (constructionOf_continueHeld _ _).trans hbox
  · obtain ⟨_, rfl⟩ := hreset
    exact (resetInto_resetEntry _).constructionOf_eq hs
  · obtain ⟨_, _, _, hr, _⟩ := hduring
    exact hr.constructionOf_eq hs

/-- Settles O42: no step changes `constructionOf`, in which all of the statement shows. -/
theorem everyStepKeepsTheConstruction : Obligations.EveryStepKeepsTheConstruction := by
  intro s t hs h
  have hc := step_constructionOf hs h
  obtain ⟨hp, h1, h2⟩ := (constructionOf_eq_iff s t).mp hc
  exact ⟨hp, holdsConstruction_of_eq hc hs, h1, h2⟩

end Sys2Proof.Machine

namespace Sys2Proof.Machine

/-!
The invariant of CORE (R37) step by step. What it says apart from the duties shows in `controlOf`, so an operation that leaves
`controlOf` alone keeps the invariant wherever the duties stay ordered. Left are the operations a mode change is made of: `Changing`
says what holds of a state in the middle of one.
-/

/-- What the invariant reads of a state, apart from the duties. -/
def controlOf (s : State) :=
  (((s.ch1.mode, s.ch1.active), (s.ch2.mode, s.ch2.active)), s.adcOn, (s.halted, s.fault, s.held))

/-- Both channels are the named one and the other. -/
theorem forall_chan_iff (c : Channel) (P : Chan → Prop) (s : State) :
    P s.ch1 ∧ P s.ch2 ↔ P (s.chan c) ∧ P (s.chan (otherChannel c)) := by
  cases c <;> simp [otherChannel, and_comm]

theorem activeCount_pos_iff_chan (c : Channel) (s : State) :
    0 < activeCount s ↔ (s.chan c).active = true ∨ (s.chan (otherChannel c)).active = true := by
  cases c <;> simp [activeCount_pos_iff, otherChannel, or_comm]

/-! ### Operations that leave the control state alone -/

theorem boundary_of_controlOf_eq {s t : State} (e : controlOf t = controlOf s) (h : Boundary s) : Boundary t := by
  simp only [controlOf, Prod.mk.injEq] at e
  obtain ⟨⟨⟨hm1, ha1⟩, hm2, ha2⟩, hadc, -, -, hheld⟩ := e
  unfold Boundary at h ⊢
  rw [hheld]
  split at h
  · simpa only [ActiveMatchesMode, activeCount, hm1, ha1, hm2, ha2, hadc] using h
  · simpa only [ActiveMatchesMode, activeCount, hm1, ha1, hm2, ha2] using h
  · rename_i c m _
    cases c <;> simpa only [ActiveMatchesMode, otherChannel, chan_ch1, chan_ch2, hm1, ha1, hm2, ha2] using h

theorem coreInv_of_controlOf_eq {s t : State} (h : CoreInv s) (e : controlOf t = controlOf s)
    (hd : DutiesOrdered t.ch1 ∧ DutiesOrdered t.ch2) : CoreInv t := by
  have hb := boundary_of_controlOf_eq e
  simp only [controlOf, Prod.mk.injEq] at e
  obtain ⟨⟨⟨hm1, -⟩, hm2, -⟩, -, hhalted, hfault, hheld⟩ := e
  refine ⟨hd, ?_, ?_, ?_⟩
  · rw [hm1, hm2]
    exact h.noMaxPower
  · rw [hhalted, hfault, hheld]
    exact h.fault
  · rw [hhalted]
    exact fun hr => hb (h.boundary hr)

theorem coreInv_emitAll {s : State} (h : CoreInv s) (ops : List DriverOp) : CoreInv (emitAll ops s) :=
  coreInv_of_controlOf_eq h rfl h.duties

theorem coreInv_respond {s : State} (h : CoreInv s) (st : Status) (d : Word) : CoreInv (respond st d s) :=
  coreInv_of_controlOf_eq h rfl h.duties

theorem coreInv_setInbox {s : State} (h : CoreInv s) (l : List Input) : CoreInv (setInbox l s) :=
  coreInv_of_controlOf_eq h rfl h.duties

/-- A register write that leaves the mode and the activation of its channel alone. -/
theorem coreInv_modChan {s : State} (h : CoreInv s) (c : Channel) (f : Chan → Chan) (hm : ∀ ch, (f ch).mode = ch.mode)
    (ha : ∀ ch, (f ch).active = ch.active) (hd : DutiesOrdered (f (s.chan c))) : CoreInv (modChan c f s) := by
  refine coreInv_of_controlOf_eq h ?_ ?_
  · cases c <;> simp [controlOf, hm, ha]
  · rw [forall_chan_iff c, modChan_chan_same, modChan_chan_other]
    exact ⟨hd, ((forall_chan_iff c DutiesOrdered s).mp h.duties).2⟩

theorem CoreInv.dutiesOrdered {s : State} (h : CoreInv s) (c : Channel) : DutiesOrdered (s.chan c) :=
  ((forall_chan_iff c DutiesOrdered s).mp h.duties).1

/-! ### The fatal fault, and reset -/

/-- R310: a fatal fault ends in the invariant from any state whose duties and modes are sound. -/
theorem coreInv_raiseFatal {s : State} (hd : DutiesOrdered s.ch1 ∧ DutiesOrdered s.ch2)
    (hm : s.ch1.mode ≠ .maxPower ∧ s.ch2.mode ≠ .maxPower) (c : Channel) (t : Timer) (u : OcUnit) (n : Nat) :
    CoreInv (raiseFatal c t u n s) :=
  ⟨hd, hm, ⟨rfl, fun _ => rfl⟩, nofun⟩

theorem coreInv_construct (p : Construction) : CoreInv (State.construct p) where
  duties := by simp [DutiesOrdered, State.construct, Chan.construct]
  noMaxPower := by simp [State.construct, Chan.construct]
  fault := by simp [State.construct, FaultRecord.clear]
  boundary _ := by simp [Boundary, ActiveMatchesMode, State.construct, Chan.construct, activeCount]

theorem ResetInto.coreInv {s t : State} {box : List Input} (h : ResetInto s box t) : CoreInv t := by
  obtain ⟨_, _, _, rfl⟩ := h
  have hc := coreInv_construct s.params
  exact coreInv_of_controlOf_eq hc rfl hc.duties

/-! ### The middle of a mode change -/

/-- Between two parts of a mode change of channel c, no command being held: all of the invariant but what relates channel c's mode,
its activation and adc_on. -/
structure Changing (c : Channel) (s : State) : Prop where
  duties : DutiesOrdered s.ch1 ∧ DutiesOrdered s.ch2
  noMaxPower : s.ch1.mode ≠ .maxPower ∧ s.ch2.mode ≠ .maxPower
  running : s.halted = false
  noFault : s.fault.valid = false
  idle : s.held = none
  other : ActiveMatchesMode (s.chan (otherChannel c))

/-- Where a command is accepted, the invariant is `Changing` with channel c and adc_on matching. -/
theorem CoreInv.changing {s : State} (h : CoreInv s) (hr : s.halted = false) (hh : s.held = none) (c : Channel) :
    Changing c s ∧ ActiveMatchesMode (s.chan c) ∧ (s.adcOn = true ↔ 0 < activeCount s) := by
  have hb := h.boundary hr
  unfold Boundary at hb
  rw [hh] at hb
  obtain ⟨hmatch, hadc⟩ := hb
  obtain ⟨hc, ho⟩ := (forall_chan_iff c ActiveMatchesMode s).mp hmatch
  exact ⟨⟨h.duties, h.noMaxPower, hr, h.fault.1.trans hr, hh, ho⟩, hc, hadc⟩

/-- The mode change is over once channel c and adc_on match again. -/
theorem Changing.coreInv {c : Channel} {s : State} (h : Changing c s) (hc : ActiveMatchesMode (s.chan c))
    (hadc : s.adcOn = true ↔ 0 < activeCount s) : CoreInv s := by
  refine ⟨h.duties, h.noMaxPower, by simp [h.noFault, h.running, h.idle], fun _ => ?_⟩
  unfold Boundary
  rw [h.idle]
  exact ⟨(forall_chan_iff c ActiveMatchesMode s).mpr ⟨hc, h.other⟩, hadc⟩

/-- Where the rest of a mode change is held at a wait, the boundary of the held state is what is left to show. -/
theorem Changing.coreInv_hold {c : Channel} {s : State} (h : Changing c s) (x : ReadyWait) (k : Resumption)
    (hb : Boundary (hold x k s)) : CoreInv (hold x k s) :=
  ⟨h.duties, h.noMaxPower, by simp [h.noFault, h.running], fun _ => hb⟩

theorem changing_emitAll {c : Channel} {s : State} (h : Changing c s) (ops : List DriverOp) : Changing c (emitAll ops s) :=
  ⟨h.duties, h.noMaxPower, h.running, h.noFault, h.idle, by simpa using h.other⟩

theorem changing_adcOn {c : Channel} {s : State} (h : Changing c s) (b : Bool) : Changing c { s with adcOn := b } :=
  ⟨h.duties, h.noMaxPower, h.running, h.noFault, h.idle, by cases c <;> exact h.other⟩

theorem changing_of_outputsAndAcks {c : Channel} {s t : State} (h : Changing c s) (ht : OutputsAndAcks s t) : Changing c t := by
  obtain ⟨_, _, _, rfl⟩ := ht
  exact ⟨h.duties, h.noMaxPower, h.running, h.noFault, h.idle, by cases c <;> exact h.other⟩

/-- Channel c's mode and activation may be written at will, but for MaxPower. -/
theorem changing_modChan {c : Channel} {s : State} (h : Changing c s) (f : Chan → Chan) (hm : (f (s.chan c)).mode ≠ .maxPower)
    (h1 : ∀ ch, (f ch).duty1 = ch.duty1) (h2 : ∀ ch, (f ch).duty2 = ch.duty2) : Changing c (modChan c f s) := by
  obtain ⟨hd, hdo⟩ := (forall_chan_iff c DutiesOrdered s).mp h.duties
  obtain ⟨-, hmo⟩ := (forall_chan_iff c (·.mode ≠ .maxPower) s).mp h.noMaxPower
  refine ⟨?_, ?_, by simpa using h.running, by simpa using h.noFault, by simpa using h.idle, by simpa using h.other⟩
  · rw [forall_chan_iff c, modChan_chan_same, modChan_chan_other]
    exact ⟨by simpa only [DutiesOrdered, h1, h2] using hd, hdo⟩
  · rw [forall_chan_iff c (·.mode ≠ .maxPower), modChan_chan_same, modChan_chan_other]
    exact ⟨hm, hmo⟩

/-! ### The parts of a mode change -/

/-- R101, R202: ENABLE leaves channel c active and still Disabled, its CONFIGURE held. -/
theorem Changing.enable {c : Channel} {s : State} (h : Changing c s) (hc : (s.chan c).mode = .disabled) {m : Mode}
    (hm : m ≠ .disabled ∧ m ≠ .maxPower) (rest : State → State) : CoreInv (enable c (.configure c m) rest s) := by
  rw [enable_eq]
  have hon : Changing c (modChan c (Chan.setActive true) s) := changing_modChan h _ (by simp [hc]) (by simp) (by simp)
  exact (changing_emitAll hon _).coreInv_hold _ _ ⟨by simp [hc], by simpa using h.other, hm⟩

/-- R105, R203, R204: the teardown leaves channel c Disabled and inactive, whatever it was; the other channel decides whether the
response is held behind the "on" branch. -/
theorem Changing.disableAndRespond {c : Channel} {s : State} (h : Changing c s) (st : Status) :
    CoreInv (disableAndRespond c st s) := by
  have hdown : Changing c (modChan c (fun ch => (ch.setMode .disabled).setActive false) s) :=
    changing_modChan h _ (by simp) (by simp) (by simp)
  cases ho : (s.chan (otherChannel c)).active with
  | true =>
    rw [disableAndRespond_of_active c st s ho]
    refine (changing_emitAll hdown _).coreInv_hold _ _ ⟨(forall_chan_iff c ActiveMatchesMode _).mpr ⟨?_, ?_⟩, ?_⟩
    · simp [ActiveMatchesMode]
    · simpa using h.other
    · simp [activeCount_pos_iff_chan c, ho]
  | false =>
    rw [disableAndRespond_of_inactive c st s ho]
    refine coreInv_respond (Changing.coreInv (changing_adcOn (changing_emitAll hdown _) false) ?_ ?_) st 0#32
    · cases c <;> simp [ActiveMatchesMode]
    · cases c <;> simp_all [activeCount, otherChannel]

/-- R101, R104, R105: with channel c active and adc_on set, all three ends of CONFIGURE lead back to the invariant. -/
theorem Changing.configureAndSetMode {c : Channel} {s : State} (h : Changing c s) (ha : (s.chan c).active = true)
    (hadc : s.adcOn = true) {m : Mode} (hm : m ≠ .disabled ∧ m ≠ .maxPower) : CoreInv (configureAndSetMode c m s) := by
  unfold Machine.configureAndSetMode
  rcases configure_cases c s with ⟨_, _, _, _, _, e⟩ | ⟨t, ht, e | e⟩
  · rw [e]
    exact coreInv_raiseFatal h.duties h.noMaxPower ..
  · rw [e]
    have hset : Changing c (modChan c (Chan.setMode m) t) :=
      changing_modChan (changing_of_outputsAndAcks h ht) _ hm.2 (by simp) (by simp)
    obtain ⟨_, _, _, rfl⟩ := ht
    refine coreInv_respond (hset.coreInv ?_ ?_) .ok 0#32
    · cases c <;> simpa [ActiveMatchesMode, hm.1] using ha
    · rw [activeCount_pos_iff_chan c]
      cases c <;> simp_all
  · rw [e]
    exact (changing_of_outputsAndAcks h ht).disableAndRespond .configFault

/-- SET_DUTY's CONFIGURE ends as SET_MODE's towards the mode the channel has does. -/
theorem reconfigured_eq_configureAndSetMode (c : Channel) (s : State) :
    reconfigured c s = configureAndSetMode c (s.chan c).mode s := by
  unfold reconfigured configureAndSetMode
  rcases configure_cases c s with ⟨_, _, _, _, _, e⟩ | ⟨t, ⟨_, _, _, rfl⟩, e | e⟩
  · rw [e]
  · rw [e]
    cases c <;> rfl
  · rw [e]

/-! ### The rest of a held command -/

/-- READY(ADC) ends the hold with adc_on set (R204, R206, R209). -/
theorem recomputeAfterAdc_eq (s : State) :
    recomputeAfterAdc s =
      { emitAll [.adcSeq [.ch1V, .ch1I, .ch2V, .ch2I], .adcScanOn, .adcIrqOn, .clkOn .tt, .trigRate 1000#32, .trigStart] s with
        held := none, adcOn := true } := rfl

theorem coreInv_continueHeld {s : State} (h : CoreInv s) (hr : s.halted = false) {k : Held} (hk : s.held = some k) :
    CoreInv (continueHeld k s) := by
  have hv := h.fault.1.trans hr
  have hb := h.boundary hr
  obtain ⟨x, k⟩ := k
  unfold Boundary at hb
  rw [hk] at hb
  cases x with
  | osc =>
    refine ⟨h.duties, h.noMaxPower, by simp [continueHeld, recomputeAfterOsc, hv, hr], fun _ => ?_⟩
    cases k with
    | configure c m => cases c <;> exact hb
    | respond st => exact hb
  | adc =>
    simp only [continueHeld, resume]
    cases k with
    | configure c m =>
      obtain ⟨⟨ha, hmode⟩, ho, hm⟩ := hb
      have hc : Changing c (recomputeAfterAdc s) :=
        ⟨h.duties, h.noMaxPower, hr, hv, rfl, by cases c <;> exact ho⟩
      exact hc.configureAndSetMode (by cases c <;> exact ha) rfl hm
    | respond st =>
      obtain ⟨⟨h1, h2⟩, hcount⟩ := hb
      have hc : Changing .ch1 (recomputeAfterAdc s) := ⟨h.duties, h.noMaxPower, hr, hv, rfl, h2⟩
      exact coreInv_respond (hc.coreInv h1 ⟨fun _ => hcount, fun _ => rfl⟩) st 0#32

/-! ### SAMPLE -/

theorem dutiesOrdered_clampDuty {d1 d2 : Int} (h : d2 ≤ d1) (ch : Chan) :
    DutiesOrdered (ch.setDuties (clampDuty d1) (clampDuty d2)) := by
  simp only [DutiesOrdered, Chan.setDuties_duty1, Chan.setDuties_duty2, toNat_clampDuty]
  omega

theorem coreInv_updateDuty {s : State} (h : CoreInv s) (c : Channel) : CoreInv (updateDuty c s).state := by
  rcases updateDuty_cases c s with ⟨ops, _, _, e⟩ | ⟨ops, _, _, _, _, _, _, _, e⟩
  · rw [e]
    exact coreInv_emitAll h ops
  · rw [e]
    exact coreInv_raiseFatal (s := emitAll ops s) h.duties h.noMaxPower ..

theorem coreInv_feedback {s : State} (h : CoreInv s) (c : Channel) : CoreInv (feedback c s).state := by
  rcases feedback_cases c s with ⟨_, e⟩ | ⟨w, hw, e⟩
  · rw [e]
    exact h
  · rw [e]
    have hord := regulate_ordered (s.chan c) w hw (h.dutiesOrdered c).1
    exact coreInv_updateDuty (coreInv_modChan h c _ (by simp) (by simp) (dutiesOrdered_clampDuty hord _)) c

theorem coreInv_writeSenses {s : State} (h : CoreInv s) (v1 i1 v2 i2 : Codepoint) : CoreInv (writeSenses v1 i1 v2 i2 s) := by
  have h1 := coreInv_modChan h .ch1 (Chan.setSenses v1 i1) (by simp) (by simp) (h.dutiesOrdered .ch1)
  exact coreInv_modChan h1 .ch2 (Chan.setSenses v2 i2) (by simp) (by simp) (h1.dutiesOrdered .ch2)

theorem coreInv_execSample {s t : State} (h : CoreInv s) {v1 i1 v2 i2 : Codepoint} (e : execSample v1 i1 v2 i2 s = .next t) :
    CoreInv t := by
  have h1 := coreInv_feedback (coreInv_writeSenses h v1 i1 v2 i2) .ch1
  cases e
  cases hf : feedback .ch1 (writeSenses v1 i1 v2 i2 s) with
  | on u => exact coreInv_feedback (by simpa [hf] using h1) .ch2
  | ended u => simpa [hf] using h1

/-! ### Every instruction, every step -/

theorem coreInv_execSetMode {s t : State} (h : CoreInv s) (hr : s.halted = false) (hh : s.held = none) {c : Channel} {m : Mode}
    (e : execSetMode c m s = .next t) : CoreInv t := by
  obtain ⟨hc, hmatch, hadc⟩ := h.changing hr hh c
  rcases execSetMode_cases c m s with ⟨_, e'⟩ | ⟨_, e'⟩ | ⟨hd, hp, ⟨hmode, e'⟩ | ⟨hmode, e'⟩⟩ <;> cases e'.symm.trans e
  · exact coreInv_respond h ..
  · exact hc.disableAndRespond .ok
  · exact hc.enable hmode ⟨hd, hp⟩ _
  · have ha := hmatch.mpr hmode
    exact hc.configureAndSetMode ha (hadc.mpr ((activeCount_pos_iff_chan c s).mpr (.inl ha))) ⟨hd, hp⟩

theorem coreInv_execSetDuty {s t : State} (h : CoreInv s) (hr : s.halted = false) (hh : s.held = none) {c : Channel} {d1 d2 : Word}
    (e : execSetDuty c d1 d2 s = .next t) : CoreInv t := by
  rcases execSetDuty_cases c d1 d2 s with e' | ⟨hle, hfull, hend⟩
  · cases e'.symm.trans e
    exact coreInv_respond h ..
  have hstored : CoreInv (modChan c (Chan.setDuties d1 d2) s) := coreInv_modChan h c _ (by simp) (by simp) ⟨hle, hfull⟩
  rcases hend with ⟨_, e'⟩ | ⟨hmode, e'⟩ <;> cases e'.symm.trans e
  · exact coreInv_respond hstored ..
  · obtain ⟨hc, hmatch, hadc⟩ := hstored.changing (by simpa using hr) (by simpa using hh) c
    have hm : ((modChan c (Chan.setDuties d1 d2) s).chan c).mode = .constantDuty := by simpa using hmode
    have ha := hmatch.mpr (by rw [hm]; decide)
    rw [reconfigured_eq_configureAndSetMode, hm]
    exact hc.configureAndSetMode ha (hadc.mpr ((activeCount_pos_iff_chan c _).mpr (.inl ha))) (by simp)

/-- Where a command is accepted, a transaction keeps the invariant. -/
theorem coreInv_exec {i : Instr} {s t : State} (h : CoreInv s) (hr : s.halted = false) (hh : s.held = none)
    (e : exec i s = .next t) : CoreInv t := by
  cases i with
  | setMode c m => exact coreInv_execSetMode h hr hh e
  | setDuty c d1 d2 => exact coreInv_execSetDuty h hr hh e
  | sample v1 i1 v2 i2 => exact coreInv_execSample h e
  | setVsetpoint c v | setIsetpoint c v =>
    cases e
    split
    · exact coreInv_respond h ..
    · exact coreInv_respond (coreInv_modChan h c _ (by simp) (by simp) (h.dutiesOrdered c)) ..
  | setPeriod c p =>
    cases e
    split
    · exact coreInv_respond (coreInv_modChan h c _ (by simp) (by simp) (h.dutiesOrdered c)) ..
    · exact coreInv_respond h ..
  | setCh2Source src =>
    cases e
    split
    · exact coreInv_respond (coreInv_of_controlOf_eq (t := { s with source := src }) h rfl h.duties) ..
    · exact coreInv_respond h ..
  | getMode c | getDuty1 c | getDuty2 c | getVsetpoint c | getIsetpoint c | getVsense c | getIsense c | getPeriod c
  | reserved _ _ _ =>
    cases e
    exact coreInv_respond h ..

/-- Settles O40: each input a step can take keeps the invariant, reset because it is met right after construction. -/
theorem everyStepKeepsTheInvariant : Obligations.EveryStepKeepsTheInvariant := by
  intro s t h e
  rcases step_cases e with ⟨_, rfl⟩ | ⟨_, rest, _, hi⟩
  · exact h
  have hbox := coreInv_setInbox h rest
  obtain hcommand | hsample | hready | hreset | hduring := hi
  · obtain ⟨_, _, hr, hh, he⟩ := hcommand
    exact coreInv_exec hbox hr hh he
  · obtain ⟨_, _, ⟨_, rfl⟩ | ⟨_, he⟩⟩ := hsample
    · exact hbox
    · exact coreInv_execSample hbox he
  · obtain ⟨_, _, rfl | ⟨_, hk, hr, rfl⟩⟩ := hready
    · exact hbox
    · exact coreInv_continueHeld hbox hr hk
  · obtain ⟨_, rfl⟩ := hreset
    exact (resetInto_resetEntry _).coreInv
  · obtain ⟨_, _, _, hr, _⟩ := hduring
    exact hr.coreInv

/-- Settles O41: the state right after reset is a construction. -/
theorem invariantHoldsAfterReset : Obligations.InvariantHoldsAfterReset :=
  ⟨coreInv_construct, coreInv_construct Config.construction⟩

end Sys2Proof.Machine

namespace Sys2Proof.Machine

/-!
What a transaction on channel c leaves alone (R42, R55). `outside c` reads off a state the parameters, the source, the other channel,
and the setpoints and limits of channel c: nothing a mode change, a duty write or FEEDBACK of channel c touches. The frame of commands
(R55) and the setpoint bounds (R27, R255) both show in it.
-/

/-- A channel's setpoints, and the limits they are checked against. -/
def setpointsOf (ch : Chan) : (Codepoint × Codepoint) × (Codepoint × Codepoint) :=
  ((ch.vsetpoint, ch.isetpoint), (ch.vlimit, ch.ilimit))

@[simp] theorem setpointsOf_setMode (m : Mode) (ch : Chan) : setpointsOf (ch.setMode m) = setpointsOf ch := by
  simp [setpointsOf]
@[simp] theorem setpointsOf_setPeriod (p : Word) (ch : Chan) : setpointsOf (ch.setPeriod p) = setpointsOf ch := by
  simp [setpointsOf]
@[simp] theorem setpointsOf_setDuties (d1 d2 : Word) (ch : Chan) : setpointsOf (ch.setDuties d1 d2) = setpointsOf ch := by
  simp [setpointsOf]
@[simp] theorem setpointsOf_setSenses (v i : Codepoint) (ch : Chan) : setpointsOf (ch.setSenses v i) = setpointsOf ch := by
  simp [setpointsOf]
@[simp] theorem setpointsOf_setActive (b : Bool) (ch : Chan) : setpointsOf (ch.setActive b) = setpointsOf ch := by
  simp [setpointsOf]

/-- The parameters, the source, the other channel, and channel c's setpoints with their limits. -/
def outside (c : Channel) (s : State) :=
  ((s.params, s.source), s.chan (otherChannel c), setpointsOf (s.chan c))

theorem outside_eq_iff (c : Channel) (s t : State) :
    outside c t = outside c s ↔ (t.params = s.params ∧ t.source = s.source) ∧
      t.chan (otherChannel c) = s.chan (otherChannel c) ∧ setpointsOf (t.chan c) = setpointsOf (s.chan c) := by
  simp [outside]

/-! ### Shared operations -/

@[simp] theorem outside_modChan (c : Channel) (f : Chan → Chan) (s : State) (hf : ∀ ch, setpointsOf (f ch) = setpointsOf ch) :
    outside c (modChan c f s) = outside c s := by
  simp [outside, hf]

@[simp] theorem outside_emitAll (c : Channel) (ops : List DriverOp) (s : State) : outside c (emitAll ops s) = outside c s := by
  simp [outside]
@[simp] theorem outside_respond (c : Channel) (st : Status) (d : Word) (s : State) : outside c (respond st d s) = outside c s := by
  simp [outside]
@[simp] theorem outside_setInbox (c : Channel) (l : List Input) (s : State) : outside c (setInbox l s) = outside c s := by
  simp [outside]
@[simp] theorem outside_hold (c : Channel) (x : ReadyWait) (k : Resumption) (s : State) : outside c (hold x k s) = outside c s := by
  simp [outside]
@[simp] theorem outside_raiseFatal (c c' : Channel) (t : Timer) (u : OcUnit) (n : Nat) (s : State) :
    outside c (raiseFatal c' t u n s) = outside c s := by
  simp [outside]
@[simp] theorem outside_recomputeAfterOsc (c : Channel) (k : Resumption) (s : State) :
    outside c (recomputeAfterOsc k s) = outside c s := by
  simp [recomputeAfterOsc, outside]
@[simp] theorem outside_recomputeAfterAdc (c : Channel) (s : State) : outside c (recomputeAfterAdc s) = outside c s := by
  cases c <;> rfl

theorem OutputsAndAcks.outside_eq {s t : State} (h : OutputsAndAcks s t) (c : Channel) : outside c t = outside c s := by
  obtain ⟨_, _, _, rfl⟩ := h
  cases c <;> rfl

/-! ### The parts of a transaction -/

@[simp] theorem outside_enable (c : Channel) (k : Resumption) (rest : State → State) (s : State) :
    outside c (enable c k rest s) = outside c s := by
  simp [enable_eq]

@[simp] theorem outside_disableAndRespond (c : Channel) (st : Status) (s : State) :
    outside c (disableAndRespond c st s) = outside c s := by
  cases h : (s.chan (otherChannel c)).active with
  | true => simp [disableAndRespond_of_active c st s h]
  | false =>
    have hAdc (u : State) (b : Bool) : outside c { u with adcOn := b } = outside c u := by cases c <;> rfl
    rw [disableAndRespond_of_inactive c st s h, outside_respond, hAdc]
    simp

@[simp] theorem outside_configureAndSetMode (c : Channel) (m : Mode) (s : State) :
    outside c (configureAndSetMode c m s) = outside c s := by
  unfold configureAndSetMode
  rcases configure_cases c s with ⟨_, _, _, _, _, e⟩ | ⟨t, ht, e | e⟩
  · simp [e]
  · simpa [e] using ht.outside_eq c
  · simpa [e] using ht.outside_eq c

@[simp] theorem outside_updateDuty (c : Channel) (s : State) : outside c (updateDuty c s).state = outside c s := by
  rcases updateDuty_cases c s with ⟨_, _, _, e⟩ | ⟨_, _, _, _, _, _, _, _, e⟩ <;> simp [e]

@[simp] theorem outside_feedback (c : Channel) (s : State) : outside c (feedback c s).state = outside c s := by
  rcases feedback_cases c s with ⟨_, e⟩ | ⟨_, _, e⟩ <;> simp [e]

theorem outside_execSetMode {c : Channel} {m : Mode} {s t : State} (h : execSetMode c m s = .next t) : outside c t = outside c s := by
  rcases execSetMode_cases c m s with ⟨_, e⟩ | ⟨_, e⟩ | ⟨_, _, ⟨_, e⟩ | ⟨_, e⟩⟩ <;> cases e.symm.trans h <;> simp

theorem outside_execSetDuty {c : Channel} {d1 d2 : Word} {s t : State} (h : execSetDuty c d1 d2 s = .next t) :
    outside c t = outside c s := by
  rcases execSetDuty_cases c d1 d2 s with e | ⟨_, _, ⟨_, e⟩ | ⟨_, e⟩⟩ <;> cases e.symm.trans h <;>
    simp [reconfigured_eq_configureAndSetMode]

/-! ### The other channel -/

/-- Settles O49: SET_MODE and SET_DUTY keep `outside`; every other command is at most one register write and its response. -/
theorem commandsLeaveTheOtherChannelAlone : Obligations.CommandsLeaveTheOtherChannelAlone := by
  intro i c s t hc h
  cases i with
  | setMode _ _ =>
    cases hc
    obtain ⟨⟨_, hsrc⟩, ho, _⟩ := (outside_eq_iff c s t).mp (outside_execSetMode h)
    exact ⟨ho, fun _ => hsrc⟩
  | setDuty _ _ _ =>
    cases hc
    obtain ⟨⟨_, hsrc⟩, ho, _⟩ := (outside_eq_iff c s t).mp (outside_execSetDuty h)
    exact ⟨ho, fun _ => hsrc⟩
  | setVsetpoint _ _ | setIsetpoint _ _ | setPeriod _ _ =>
    cases hc
    cases h
    split <;> simp
  | setCh2Source src =>
    cases hc
    cases h
    refine ⟨?_, fun hne => absurd rfl (hne src)⟩
    split <;> rfl
  | getMode _ | getDuty1 _ | getDuty2 _ | getVsetpoint _ | getIsetpoint _ | getVsense _ | getIsense _ | getPeriod _ =>
    cases hc
    cases h
    exact ⟨respond_chan .., fun _ => respond_source ..⟩
  | sample _ _ _ _ | reserved _ _ _ => cases hc

/-! ### The setpoints -/

/-- Each setpoint of a channel is at most the limit it is checked against (R21, R27, R255). -/
abbrev WithinLimits (sel : LimitSelect) (ch : Chan) : Prop :=
  ch.vsetpoint.toNat ≤ (vsetpointLimit sel ch).toNat ∧ ch.isetpoint.toNat ≤ (isetpointLimit sel ch).toNat

theorem withinLimits_of_setpointsOf_eq {sel : LimitSelect} {ch ch' : Chan} (e : setpointsOf ch' = setpointsOf ch)
    (h : WithinLimits sel ch) : WithinLimits sel ch' := by
  simp only [setpointsOf, Prod.mk.injEq] at e
  obtain ⟨⟨hv, hi⟩, hvl, hil⟩ := e
  cases sel <;> simpa only [WithinLimits, vsetpointLimit, isetpointLimit, hv, hi, hvl, hil] using h

theorem setpointsWithinLimits_iff (c : Channel) (s : State) :
    SetpointsWithinLimits s ↔
      WithinLimits s.params.limitSelect (s.chan c) ∧ WithinLimits s.params.limitSelect (s.chan (otherChannel c)) := by
  rw [← forall_chan_iff c (WithinLimits s.params.limitSelect)]
  exact ⟨fun h => ⟨h .ch1, h .ch2⟩, fun ⟨h1, h2⟩ c => by cases c <;> assumption⟩

theorem setpointsWithinLimits_of_outside_eq {c : Channel} {s t : State} (e : outside c t = outside c s)
    (h : SetpointsWithinLimits s) : SetpointsWithinLimits t := by
  obtain ⟨⟨hp, _⟩, ho, hset⟩ := (outside_eq_iff c s t).mp e
  obtain ⟨hc, hother⟩ := (setpointsWithinLimits_iff c s).mp h
  rw [setpointsWithinLimits_iff c, hp, ho]
  exact ⟨withinLimits_of_setpointsOf_eq hset hc, hother⟩

theorem setpointsWithinLimits_respond {s : State} (h : SetpointsWithinLimits s) (st : Status) (d : Word) :
    SetpointsWithinLimits (respond st d s) :=
  setpointsWithinLimits_of_outside_eq (outside_respond .ch1 st d s) h

theorem setpointsWithinLimits_setInbox {s : State} (h : SetpointsWithinLimits s) (l : List Input) :
    SetpointsWithinLimits (setInbox l s) :=
  setpointsWithinLimits_of_outside_eq (outside_setInbox .ch1 l s) h

theorem setpointsWithinLimits_modChan {c : Channel} {f : Chan → Chan} {s : State} (h : SetpointsWithinLimits s)
    (hf : WithinLimits s.params.limitSelect (f (s.chan c))) : SetpointsWithinLimits (modChan c f s) := by
  rw [setpointsWithinLimits_iff c, modChan_params, modChan_chan_same, modChan_chan_other]
  exact ⟨hf, ((setpointsWithinLimits_iff c s).mp h).2⟩

/-- A codepoint stored from a value no limit is below is within that limit. -/
theorem toNat_ofNat_le_of_not_lt {r : Nat} {limit : Codepoint} (h : ¬ limit.toNat < r) : (BitVec.ofNat 16 r).toNat ≤ limit.toNat := by
  rw [BitVec.toNat_ofNat]
  exact (Nat.mod_le _ _).trans (Nat.le_of_not_lt h)

theorem setpointsWithinLimits_execSetVsetpoint {c : Channel} {v : Word} {s t : State} (h : SetpointsWithinLimits s)
    (e : execSetVsetpoint c v s = .next t) : SetpointsWithinLimits t := by
  cases e
  split
  · exact setpointsWithinLimits_respond h _ _
  · rename_i hle
    refine setpointsWithinLimits_respond (setpointsWithinLimits_modChan h (?_ : WithinLimits _ (Chan.setVsetpoint _ _))) _ _
    exact ⟨toNat_ofNat_le_of_not_lt hle, (h c).2⟩

theorem setpointsWithinLimits_execSetIsetpoint {c : Channel} {v : Word} {s t : State} (h : SetpointsWithinLimits s)
    (e : execSetIsetpoint c v s = .next t) : SetpointsWithinLimits t := by
  cases e
  split
  · exact setpointsWithinLimits_respond h _ _
  · rename_i hle
    refine setpointsWithinLimits_respond (setpointsWithinLimits_modChan h (?_ : WithinLimits _ (Chan.setIsetpoint _ _))) _ _
    exact ⟨(h c).1, toNat_ofNat_le_of_not_lt hle⟩

theorem setpointsWithinLimits_execSample {v1 i1 v2 i2 : Codepoint} {s t : State} (h : SetpointsWithinLimits s)
    (e : execSample v1 i1 v2 i2 s = .next t) : SetpointsWithinLimits t := by
  have hsenses : SetpointsWithinLimits (writeSenses v1 i1 v2 i2 s) :=
    setpointsWithinLimits_of_outside_eq (outside_modChan .ch2 _ _ (by simp))
      (setpointsWithinLimits_of_outside_eq (outside_modChan .ch1 _ _ (by simp)) h)
  have h1 := setpointsWithinLimits_of_outside_eq (outside_feedback .ch1 _) hsenses
  cases e
  cases hf : feedback .ch1 (writeSenses v1 i1 v2 i2 s) with
  | on u =>
    rw [hf, Flow.state_on] at h1
    exact setpointsWithinLimits_of_outside_eq (outside_feedback .ch2 u) h1
  | ended u =>
    rw [hf, Flow.state_ended] at h1
    exact h1

/-- Only the two setpoint commands write a setpoint, and they check it first. -/
theorem setpointsWithinLimits_exec {i : Instr} {s t : State} (h : SetpointsWithinLimits s) (e : exec i s = .next t) :
    SetpointsWithinLimits t := by
  cases i with
  | setVsetpoint c v => exact setpointsWithinLimits_execSetVsetpoint h e
  | setIsetpoint c v => exact setpointsWithinLimits_execSetIsetpoint h e
  | setMode c m => exact setpointsWithinLimits_of_outside_eq (outside_execSetMode e) h
  | setDuty c d1 d2 => exact setpointsWithinLimits_of_outside_eq (outside_execSetDuty e) h
  | sample v1 i1 v2 i2 => exact setpointsWithinLimits_execSample h e
  | setPeriod c p =>
    cases e
    split
    · refine setpointsWithinLimits_respond (setpointsWithinLimits_of_outside_eq (c := c) ?_ h) _ _
      simp
    · exact setpointsWithinLimits_respond h _ _
  | setCh2Source src =>
    cases e
    split
    · have hsource : SetpointsWithinLimits { s with source := src } :=
        (setpointsWithinLimits_iff .ch1 _).mpr ⟨h .ch1, h .ch2⟩
      exact setpointsWithinLimits_respond hsource _ _
    · exact setpointsWithinLimits_respond h _ _
  | getMode _ | getDuty1 _ | getDuty2 _ | getVsetpoint _ | getIsetpoint _ | getVsense _ | getIsense _ | getPeriod _
  | reserved _ _ _ =>
    cases e
    exact setpointsWithinLimits_respond h _ _

/-- What a held command still does keeps `outside` of the channel it configures. -/
theorem setpointsWithinLimits_continueHeld {s : State} (h : SetpointsWithinLimits s) (k : Held) :
    SetpointsWithinLimits (continueHeld k s) := by
  obtain ⟨x, k⟩ := k
  cases x with
  | osc => exact setpointsWithinLimits_of_outside_eq (outside_recomputeAfterOsc .ch1 k s) h
  | adc =>
    cases k with
    | configure c m => exact setpointsWithinLimits_of_outside_eq (c := c) (by simp [continueHeld, resume]) h
    | respond st => exact setpointsWithinLimits_of_outside_eq (c := .ch1) (by simp [continueHeld, resume]) h

/-- Both setpoints are 0 after reset (R41). -/
theorem ResetInto.setpointsWithinLimits {s t : State} {box : List Input} (h : ResetInto s box t) : SetpointsWithinLimits t := by
  obtain ⟨_, _, _, rfl⟩ := h
  rw [setpointsWithinLimits_iff .ch1]
  simp [WithinLimits, State.construct, Chan.construct, otherChannel]

/-- Settles O43: the setpoint commands check the limit, every other transaction leaves setpoints and limits alone, and reset clears
the setpoints. -/
theorem everyStepKeepsSetpointsWithinLimits : Obligations.EveryStepKeepsSetpointsWithinLimits := by
  intro s t h e
  rcases step_cases e with ⟨_, rfl⟩ | ⟨_, rest, _, hi⟩
  · exact h
  have hbox := setpointsWithinLimits_setInbox h rest
  obtain hcommand | hsample | hready | hreset | hduring := hi
  · obtain ⟨_, _, _, _, he⟩ := hcommand
    exact setpointsWithinLimits_exec hbox he
  · obtain ⟨_, _, ⟨_, rfl⟩ | ⟨_, he⟩⟩ := hsample
    · exact hbox
    · exact setpointsWithinLimits_exec hbox he
  · obtain ⟨_, _, rfl | ⟨_, _, _, rfl⟩⟩ := hready
    · exact hbox
    · exact setpointsWithinLimits_continueHeld hbox _
  · obtain ⟨_, rfl⟩ := hreset
    exact (resetInto_resetEntry _).setpointsWithinLimits
  · obtain ⟨_, _, _, hr, _⟩ := hduring
    exact hr.setpointsWithinLimits

end Sys2Proof.Machine

namespace Sys2Proof.Machine

/-!
READY(ADC) for a held command (R204 to R206, R209). The step takes the indication from behind the waiting commands; what remains is to
read the statements' words for the teardown and for SET_MODE's end as the model's operations.
-/

/-! ### The statements' words as the model's operations -/

theorem teardownOps_eq_disableOps (src : Source) (c : Channel) : teardownOps src c = disableOps src c := by
  cases c
  · rfl
  · cases src <;> rfl

theorem tornDown_eq_disableAndRespond (c : Channel) (st : Status) (s : State) : tornDown c st s = disableAndRespond c st s := by
  unfold tornDown
  rw [teardownOps_eq_disableOps]
  cases h : (s.chan (otherChannel c)).active with
  | true => exact (disableAndRespond_of_active c st s h).symm
  | false => exact (disableAndRespond_of_inactive c st s h).symm

theorem afterConfigure_eq_configureAndSetMode (c : Channel) (m : Mode) (s : State) :
    afterConfigure c m s = configureAndSetMode c m s := by
  unfold afterConfigure configureAndSetMode
  cases configure c s with
  | ok t => rfl
  | fail t => exact tornDown_eq_disableAndRespond c .configFault t
  | raised t => rfl

/-! ### Taking the indication -/

theorem isCommand_iff (i : Input) : isCommand i = true ↔ ∃ w, i = .command w := by
  cases i <;> simp [isCommand]

/-- While a command is held, the first input behind the waiting commands is taken (R51, R52). -/
theorem nextInput_of_held {s : State} {k : Held} {before rest : List Input} {i : Input} (hk : s.held = some k)
    (hbox : s.inbox = before ++ i :: rest) (hb : ∀ x ∈ before, isCommand x = true) (hi : isCommand i = false) :
    nextInput s = some (i, before ++ rest) := by
  have hne : ∀ w, i ≠ .command w := by
    rintro w rfl
    cases hi
  simp only [nextInput, hk, Option.isSome_some, Bool.or_true, if_true, hbox]
  exact firstNonCommand_append before rest i (fun x hx => (isCommand_iff x).mp (hb x hx)) hne

/-- The indication a held command waits for lets it go on (R205). -/
theorem step_of_awaited_ready {s : State} {x : ReadyWait} {k : Resumption} {before rest : List Input} (hr : Running s)
    (hk : s.held = some ⟨x, k⟩) (hbox : s.inbox = before ++ .ready x :: rest) (hb : ∀ i ∈ before, isCommand i = true) :
    step s = .next (continueHeld ⟨x, k⟩ (setInbox (before ++ rest) s)) := by
  simp [step, nextInput_of_held hk hbox hb rfl, serve, serveInput, serveReady, hk, hr]

/-- Settles O32: the step continues the held command, whose rest the model and the statement name alike. -/
theorem readyAdcFinishesTheSequence : Obligations.ReadyAdcFinishesTheSequence := by
  intro s k before rest hr hk hbox hb
  rw [step_of_awaited_ready hr hk hbox hb]
  simp only [continueHeld, resume, recomputeAfterAdc_eq]
  cases k with
  | respond st => rfl
  | configure c m =>
    dsimp only
    rw [afterConfigure_eq_configureAndSetMode]
    rfl

end Sys2Proof.Machine

namespace Sys2Proof.Machine

/-!
The byte transport (R53). What the ports' bytes carry is said once for every byte order: `commandOfBytes` and `sampleOfBytes` undo
`portWordBytes`. The decoded instruction and the delivered input both follow from it.
-/

/-- Byte k of a word, as a number, is its bits [8k+7:8k] (R53). -/
theorem ofNat_div_pow_eq_extractLsb' {n : Nat} (w : BitVec n) (k : Nat) :
    BitVec.ofNat 8 (w.toNat / 256 ^ k) = w.extractLsb' (8 * k) 8 := by
  apply BitVec.eq_of_toNat_eq
  rw [BitVec.toNat_ofNat, BitVec.extractLsb'_toNat, Nat.shiftRight_eq_div_pow, pow_mul]
  rfl

theorem getElem?_bytesOfNatLE_toNat {m : Nat} (w : BitVec m) {n k : Nat} (hk : k < n) :
    (bytesOfNatLE n w.toNat)[k]? = some (w.extractLsb' (8 * k) 8) := by
  rw [getElem?_bytesOfNatLE n _ k hk, ofNat_div_pow_eq_extractLsb']

theorem length_portWordBytes_command (w : BitVec 96) (o : ByteOrder) : (portWordBytes (.command w) o).length = 12 :=
  length_bytesOfNat o 12 w.toNat

theorem length_portWordBytes_sample (w : BitVec 64) (o : ByteOrder) : (portWordBytes (.sample w) o).length = 8 :=
  length_bytesOfNat o 8 w.toNat

/-- A word of n bytes is read back from them, in either byte order (R53). -/
theorem ofNat_natOfBytes_bytesOfNat (o : ByteOrder) (n : Nat) (w : BitVec (8 * n)) :
    BitVec.ofNat (8 * n) (natOfBytes o (bytesOfNat o n w.toNat)) = w := by
  have hlt : w.toNat < 256 ^ n := by
    rw [show 256 = 2 ^ 8 from rfl, ← pow_mul]
    exact w.isLt
  rw [natOfBytes_bytesOfNat, Nat.mod_eq_of_lt hlt, BitVec.ofNat_toNat, BitVec.setWidth_eq]

theorem commandOfBytes_portWordBytes (w : BitVec 96) (o : ByteOrder) :
    commandOfBytes (portWordBytes (.command w) o) o = .ok w := by
  rw [commandOfBytes, if_pos (length_portWordBytes_command w o)]
  exact congrArg Except.ok (ofNat_natOfBytes_bytesOfNat o 12 w)

theorem sampleOfBytes_portWordBytes (w : BitVec 64) (o : ByteOrder) :
    sampleOfBytes (portWordBytes (.sample w) o) o = .ok w := by
  rw [sampleOfBytes, if_pos (length_portWordBytes_sample w o)]
  exact congrArg Except.ok (ofNat_natOfBytes_bytesOfNat o 8 w)

/-- Settles O7: a little-endian byte is a slice of the word, the other order is defined as the reversal, and reading back undoes
both. -/
theorem serialisedWordsDecodeAsDelivered : Obligations.SerialisedWordsDecodeAsDelivered := by
  refine ⟨fun w x st d k => ⟨?_, ?_, ?_⟩, fun p st d => ⟨⟨rfl, ?_⟩, rfl, rfl⟩, fun o w x => ⟨⟨?_, ?_⟩, ?_, ?_⟩⟩
  · exact getElem?_bytesOfNatLE_toNat w
  · exact getElem?_bytesOfNatLE_toNat x
  · exact getElem?_bytesOfNatLE_toNat (responseWord st d)
  · cases p <;> rfl
  · exact length_portWordBytes_command w o
  · exact length_portWordBytes_sample x o
  · rw [decodeCommandBytes, commandOfBytes_portWordBytes]
    rfl
  · rw [decodeSampleBytes, sampleOfBytes_portWordBytes]
    rfl

/-- The response port's bytes grow by those of the new response (R53, R78). -/
theorem responsePortBytes_afterResponse (st : Status) (d : Word) (s : State) :
    responsePortBytes (afterResponse st d s) = responsePortBytes s ++ responseBytes st d s.params.portByteOrder := by
  simp [responsePortBytes, afterResponse]

/-- Settles O52: the port words are read back, so what arrives is the word that was sent; the length is checked first. -/
theorem deliveredBytesReachTheirPort : Obligations.DeliveredBytesReachTheirPort := by
  refine ⟨fun s w x => ⟨?_, ?_⟩, fun s bs => ⟨fun h => ?_, fun h => ?_⟩, ?_, fun _ _ _ _ _ _ => rfl⟩
  · rw [deliverCommandBytes, commandOfBytes_portWordBytes]
    rfl
  · rw [deliverSampleBytes, sampleOfBytes_portWordBytes]
    rfl
  · rw [deliverCommandBytes, commandOfBytes, if_neg h]
    rfl
  · rw [deliverSampleBytes, sampleOfBytes, if_neg h]
    rfl
  · exact fun s st d => responsePortBytes_afterResponse st d s

end Sys2Proof.Machine

namespace Sys2Proof.Machine

/-!
Which input a step takes (R51, R52, R311). At an accepting CORE it is the head of the inputs; while a command is held, or CORE is
halted, it is the first input behind the waiting commands, and no command is lost.
-/

theorem step_of_nextInput {s : State} {i : Input} {rest : List Input} (h : nextInput s = some (i, rest)) :
    step s = serve i (setInbox rest s) := by
  simp only [step, h]

theorem nextInput_of_accepting {s : State} (h : AcceptsCommand s) {i : Input} {rest : List Input} (hbox : s.inbox = i :: rest) :
    nextInput s = some (i, rest) := by
  obtain ⟨hr, hh⟩ := h
  simp [nextInput, hr, hh, hbox]

theorem nextInput_of_heldOrHalted {s : State} (h : s.held.isSome = true ∨ s.halted = true) :
    nextInput s = firstNonCommand s.inbox :=
  if_pos (by simpa [or_comm] using h)

/-- Settles O8: the command is the input taken, and serving it is exec. -/
theorem stepRunsTheAcceptedCommand : Obligations.StepRunsTheAcceptedCommand := by
  rintro s w rest _ hacc hbox - rfl
  rw [step_of_nextInput (nextInput_of_accepting hacc hbox)]
  rfl

/-- A running CORE takes a sample word from the head of the inputs, or, while a command is held, from behind waiting commands. -/
theorem nextInput_sample {s : State} {w : BitVec 64} {before rest : List Input} (hr : Running s)
    (hbox : s.inbox = before ++ .sample w :: rest) (hb : ∀ x ∈ before, isCommand x = true)
    (hwait : before = [] ∨ s.held.isSome = true) : nextInput s = some (.sample w, before ++ rest) := by
  cases hk : s.held with
  | some k => exact nextInput_of_held hk hbox hb rfl
  | none =>
    have hnil : before = [] := by simpa [hk] using hwait
    subst hnil
    exact nextInput_of_accepting ⟨hr, hk⟩ hbox

theorem serveSample_of_running {s : State} (hr : Running s) (w : BitVec 64) : serveSample w s = exec (decodeSample w) s :=
  if_neg (by simp [hr])

/-- Settles O9: the sample word is the input taken, and CORE running, serving it is exec. -/
theorem stepRunsTheDeliveredSample : Obligations.StepRunsTheDeliveredSample := by
  intro s w before rest hr hbox hb hwait
  rw [step_of_nextInput (nextInput_sample hr hbox hb hwait)]
  exact serveSample_of_running (s := setInbox (before ++ rest) s) hr w

end Sys2Proof.Machine

namespace Sys2Proof.Machine

/-!
What a transaction does at the ports. `Silent` says that it takes no input, gives no response, and only adds driver operations;
`Transacts` that it is silent but for at most one response, given at its end (R78). Every instruction and the rest of every held command
transacts, so a step takes what `nextInput` says (R52) and its outputs only grow (R57).
-/

/-- From `s` to `t` no input is taken and no response given, and driver operations are only added. -/
structure Silent (s t : State) : Prop where
  inbox : t.inbox = s.inbox
  responses : t.responses = s.responses
  driverOps : s.driverOps <+: t.driverOps

/-- From `s` silently on, then at most one response, whose data is 0 unless it is OK (R78). -/
inductive Transacts (s : State) : State → Prop where
  | silent {t : State} (h : Silent s t) : Transacts s t
  | responds {t : State} (st : Status) (d : Word) (h : Silent s t) (hd : st ≠ .ok → d = 0#32) : Transacts s (respond st d t)

theorem Silent.refl (s : State) : Silent s s := ⟨rfl, rfl, List.prefix_rfl⟩

theorem Silent.trans {s t u : State} (h : Silent s t) (h' : Silent t u) : Silent s u :=
  ⟨h'.inbox.trans h.inbox, h'.responses.trans h.responses, h.driverOps.trans h'.driverOps⟩

theorem Silent.transacts {s t u : State} (h : Silent s t) (h' : Transacts t u) : Transacts s u := by
  cases h' with
  | silent h' => exact .silent (h.trans h')
  | responds st d h' hd => exact .responds st d (h.trans h') hd

theorem Transacts.inbox_eq {s t : State} (h : Transacts s t) : t.inbox = s.inbox := by
  cases h with
  | silent h => exact h.inbox
  | responds st d h hd => exact h.inbox

/-! ### Shared operations -/

theorem silent_modChan (c : Channel) (f : Chan → Chan) (s : State) : Silent s (modChan c f s) :=
  ⟨by simp, by simp, by simp⟩

theorem silent_emitAll (ops : List DriverOp) (s : State) : Silent s (emitAll ops s) :=
  ⟨rfl, rfl, List.prefix_append _ _⟩

theorem silent_raiseFatal (c : Channel) (t : Timer) (u : OcUnit) (n : Nat) (s : State) : Silent s (raiseFatal c t u n s) :=
  ⟨rfl, rfl, List.prefix_rfl⟩

theorem silent_recomputeAfterOsc (k : Resumption) (s : State) : Silent s (recomputeAfterOsc k s) :=
  ⟨rfl, rfl, List.prefix_append _ _⟩

theorem silent_recomputeAfterAdc (s : State) : Silent s (recomputeAfterAdc s) :=
  ⟨rfl, rfl, List.prefix_append _ _⟩

theorem OutputsAndAcks.silent {s t : State} (h : OutputsAndAcks s t) : Silent s t := by
  obtain ⟨_, _, _, rfl⟩ := h
  exact ⟨rfl, rfl, List.prefix_append _ _⟩

theorem transacts_respond_ok (d : Word) (s : State) : Transacts s (respond .ok d s) :=
  .responds .ok d (.refl s) (absurd rfl)

theorem transacts_respond_zero (st : Status) (s : State) : Transacts s (respond st 0#32 s) :=
  .responds st 0#32 (.refl s) fun _ => rfl

/-- One register write and its OK. -/
theorem transacts_respond_modChan (c : Channel) (f : Chan → Chan) (s : State) : Transacts s (respond .ok 0#32 (modChan c f s)) :=
  (silent_modChan c f s).transacts (transacts_respond_zero _ _)

/-! ### The parts of a transaction -/

theorem silent_configure (c : Channel) (s : State) : Silent s (configure c s).state := by
  rcases configure_cases c s with ⟨_, _, _, _, _, e⟩ | ⟨t, ht, e | e⟩ <;> rw [e]
  · exact silent_raiseFatal ..
  · exact ht.silent
  · exact ht.silent

theorem silent_enable (c : Channel) (k : Resumption) (rest : State → State) (s : State) : Silent s (enable c k rest s) := by
  rw [enable_eq]
  exact ⟨by simp, by simp, by simp⟩

/-- R105: the teardown responds at once, or is held with its response still to give. -/
theorem transacts_disableAndRespond (c : Channel) (st : Status) (s : State) : Transacts s (disableAndRespond c st s) := by
  cases h : (s.chan (otherChannel c)).active with
  | true =>
    rw [disableAndRespond_of_active c st s h]
    exact .silent ⟨by simp, by simp, by simp⟩
  | false =>
    rw [disableAndRespond_of_inactive c st s h]
    exact .responds st 0#32 ⟨by simp, by simp, by simp⟩ fun _ => rfl

theorem transacts_configureAndSetMode (c : Channel) (m : Mode) (s : State) : Transacts s (configureAndSetMode c m s) := by
  have h := silent_configure c s
  unfold configureAndSetMode
  cases e : configure c s <;> rw [e] at h
  case ok t => exact h.transacts (transacts_respond_modChan ..)
  case fail t => exact h.transacts (transacts_disableAndRespond ..)
  case raised t => exact .silent h

theorem transacts_continueHeld (k : Held) (s : State) : Transacts s (continueHeld k s) := by
  obtain ⟨x, k⟩ := k
  cases x with
  | osc => exact .silent (silent_recomputeAfterOsc k s)
  | adc =>
    refine (silent_recomputeAfterAdc s).transacts ?_
    cases k with
    | configure c m => exact transacts_configureAndSetMode ..
    | respond st => exact transacts_respond_zero ..

theorem silent_updateDuty (c : Channel) (s : State) : Silent s (updateDuty c s).state := by
  rcases updateDuty_cases c s with ⟨ops, _, _, e⟩ | ⟨ops, _, _, _, _, _, _, _, e⟩ <;> rw [e]
  · exact silent_emitAll ops s
  · exact (silent_emitAll ops s).trans (silent_raiseFatal ..)

theorem silent_feedback (c : Channel) (s : State) : Silent s (feedback c s).state := by
  rcases feedback_cases c s with ⟨_, e⟩ | ⟨_, _, e⟩ <;> rw [e]
  · exact .refl s
  · exact (silent_modChan ..).trans (silent_updateDuty ..)

theorem silent_execSample {v1 i1 v2 i2 : Codepoint} {s t : State} (h : execSample v1 i1 v2 i2 s = .next t) : Silent s t := by
  have hsenses : Silent s (writeSenses v1 i1 v2 i2 s) := (silent_modChan ..).trans (silent_modChan ..)
  have h1 := hsenses.trans (silent_feedback .ch1 _)
  cases h
  cases e : feedback .ch1 (writeSenses v1 i1 v2 i2 s) <;> rw [e] at h1
  case on u => exact h1.trans (silent_feedback .ch2 u)
  case ended u => exact h1

/-! ### Every instruction, every step -/

theorem transacts_execSetMode {c : Channel} {m : Mode} {s t : State} (h : execSetMode c m s = .next t) : Transacts s t := by
  rcases execSetMode_cases c m s with ⟨_, e⟩ | ⟨_, e⟩ | ⟨_, _, ⟨_, e⟩ | ⟨_, e⟩⟩ <;> cases e.symm.trans h
  · exact transacts_respond_zero ..
  · exact transacts_disableAndRespond ..
  · exact .silent (silent_enable ..)
  · exact transacts_configureAndSetMode ..

theorem transacts_execSetDuty {c : Channel} {d1 d2 : Word} {s t : State} (h : execSetDuty c d1 d2 s = .next t) : Transacts s t := by
  rcases execSetDuty_cases c d1 d2 s with e | ⟨_, _, ⟨_, e⟩ | ⟨_, e⟩⟩ <;> cases e.symm.trans h
  · exact transacts_respond_zero ..
  · exact transacts_respond_modChan ..
  · rw [reconfigured_eq_configureAndSetMode]
    exact (silent_modChan ..).transacts (transacts_configureAndSetMode ..)

theorem transacts_exec {i : Instr} {s t : State} (h : exec i s = .next t) : Transacts s t := by
  cases i with
  | setMode c m => exact transacts_execSetMode h
  | setDuty c d1 d2 => exact transacts_execSetDuty h
  | sample v1 i1 v2 i2 => exact .silent (silent_execSample h)
  | setVsetpoint c v | setIsetpoint c v =>
    cases h
    split
    · exact transacts_respond_zero ..
    · exact transacts_respond_modChan ..
  | setPeriod c p =>
    cases h
    split
    · exact transacts_respond_modChan ..
    · exact transacts_respond_zero ..
  | setCh2Source src =>
    cases h
    split
    · have hsource : Silent s { s with source := src } := ⟨rfl, rfl, List.prefix_rfl⟩
      exact hsource.transacts (transacts_respond_zero ..)
    · exact transacts_respond_zero ..
  | getMode c | getDuty1 c | getDuty2 c | getVsetpoint c | getIsetpoint c | getVsense c | getIsense c | getPeriod c =>
    cases h
    exact transacts_respond_ok ..
  | reserved _ _ _ =>
    cases h
    exact transacts_respond_zero ..

/-- A step takes no input, or is reset, or transacts with the input taken. -/
theorem step_transacts_or_resets {s t : State} (h : step s = .next t) :
    (nextInput s = none ∧ t = s) ∨ ∃ i rest, nextInput s = some (i, rest) ∧
      (Transacts (setInbox rest s) t ∨ ∃ box, ResetInto s box t ∧
        (box = rest ∨ ∃ j, nextInput (setInbox rest s) = some (j, box))) := by
  rcases step_cases h with hnone | ⟨i, rest, hn, hi⟩
  · exact .inl hnone
  refine .inr ⟨i, rest, hn, ?_⟩
  obtain hcommand | hsample | hready | hreset | hduring := hi
  · obtain ⟨_, _, _, _, he⟩ := hcommand
    exact .inl (transacts_exec he)
  · obtain ⟨_, _, ⟨_, rfl⟩ | ⟨_, he⟩⟩ := hsample
    · exact .inl (.silent (.refl _))
    · exact .inl (transacts_exec he)
  · obtain ⟨_, _, rfl | ⟨_, _, _, rfl⟩⟩ := hready
    · exact .inl (.silent (.refl _))
    · exact .inl (transacts_continueHeld ..)
  · obtain ⟨_, rfl⟩ := hreset
    exact .inr ⟨rest, resetInto_resetEntry (setInbox rest s), .inl rfl⟩
  · obtain ⟨_, box, _, hr, hbox⟩ := hduring
    exact .inr ⟨box, hr, hbox.imp And.right id⟩

/-! ### The outputs -/

/-- From `s` to `t` the output sequences have grown, by one response at most, whose data is 0 unless it is OK (R57, R78). -/
abbrev OutputsGrow (s t : State) : Prop :=
  (∃ ops, t.driverOps = s.driverOps ++ ops) ∧
    ∃ rs, t.responses = s.responses ++ rs ∧ rs.length ≤ 1 ∧ ∀ r ∈ rs, r.st ≠ .ok → r.d = 0#32

theorem Silent.outputsGrow {s t : State} (h : Silent s t) : OutputsGrow s t := by
  obtain ⟨ops, hops⟩ := h.driverOps
  exact ⟨⟨ops, hops.symm⟩, [], by simp [h.responses]⟩

theorem Transacts.outputsGrow {s t : State} (h : Transacts s t) : OutputsGrow s t := by
  cases h with
  | silent h => exact h.outputsGrow
  | responds st d h hd =>
    obtain ⟨hops, _⟩ := h.outputsGrow
    exact ⟨hops, [⟨st, d⟩], by simp [h.responses], by simp, by simpa using hd⟩

theorem ResetInto.outputsGrow {s t : State} {box : List Input} (h : ResetInto s box t) : OutputsGrow s t := by
  obtain ⟨ops, _, _, rfl⟩ := h
  exact ⟨⟨ops, rfl⟩, [], by simp⟩

/-- Settles O47: a step leaves the outputs alone, transacts, or resets. -/
theorem outputsOnlyGrowByAtMostOneResponse : Obligations.OutputsOnlyGrowByAtMostOneResponse := by
  intro s t h
  rcases step_transacts_or_resets h with ⟨_, rfl⟩ | ⟨_, _, _, ht | ⟨_, hr, _⟩⟩
  · exact (Silent.refl t).outputsGrow
  · exact ht.outputsGrow
  · exact hr.outputsGrow

/-! ### The waiting commands -/

/-- Taking an input from behind the waiting commands leaves every command, in its order (R52). -/
theorem filter_isCommand_of_firstNonCommand {l rest : List Input} {i : Input} (h : firstNonCommand l = some (i, rest)) :
    rest.filter isCommand = l.filter isCommand := by
  obtain ⟨hi, before, after, _, rfl, rfl⟩ := firstNonCommand_some h
  have hne : ¬ isCommand i = true := fun hc => by
    obtain ⟨w, e⟩ := (isCommand_iff i).mp hc
    exact hi w e
  rw [List.filter_append, List.filter_append, List.filter_cons_of_neg hne]

/-- While a command is held or CORE is halted, no step takes a command (R52, R311). -/
theorem step_filter_isCommand {s t : State} (hs : s.held.isSome = true ∨ s.halted = true) (h : step s = .next t) :
    t.inbox.filter isCommand = s.inbox.filter isCommand := by
  rcases step_transacts_or_resets h with ⟨_, rfl⟩ | ⟨i, rest, hn, ht⟩
  · rfl
  rw [nextInput_of_heldOrHalted hs] at hn
  have hrest := filter_isCommand_of_firstNonCommand hn
  obtain ht | ⟨box, ⟨_, _, _, rfl⟩, rfl | ⟨j, hj⟩⟩ := ht
  · rw [ht.inbox_eq]
    exact hrest
  · exact hrest
  · rw [nextInput_of_heldOrHalted (s := setInbox rest s) hs] at hj
    exact (filter_isCommand_of_firstNonCommand hj).trans hrest

/-- Settles O10: no command is taken, and with nothing but commands there is nothing to take. -/
theorem commandsWaitWhileHeldOrHalted : Obligations.CommandsWaitWhileHeldOrHalted := by
  refine fun s hs => ⟨fun t => step_filter_isCommand hs, fun hall => ?_⟩
  have hnone : nextInput s = none := by
    rw [nextInput_of_heldOrHalted hs]
    exact firstNonCommand_none fun x hx => (isCommand_iff x).mp (hall x hx)
  simp only [step, hnone]

end Sys2Proof.Machine

namespace Sys2Proof

/-!
The encodings of file 30. Decoding is said once, by rows: what a header of each opcode decodes to (R74), and that the rest is `reserved`
exactly where R77 calls it ILLEGAL.
-/

/-! ### The rows of the opcode map (R74) -/

section Rows

variable (c : Channel) (a b : Word)

theorem decodeWords_setMode {m : Mode} (h : modeOfCode a = some m) : decodeWords (header 0x01#8 c) a b = .setMode c m := by
  simp [decodeWords, h]
@[simp] theorem decodeWords_getMode : decodeWords (header 0x02#8 c) a b = .getMode c := by simp [decodeWords]
@[simp] theorem decodeWords_setDuty : decodeWords (header 0x03#8 c) a b = .setDuty c a b := by simp [decodeWords]
@[simp] theorem decodeWords_getDuty1 : decodeWords (header 0x04#8 c) a b = .getDuty1 c := by simp [decodeWords]
@[simp] theorem decodeWords_getDuty2 : decodeWords (header 0x05#8 c) a b = .getDuty2 c := by simp [decodeWords]
@[simp] theorem decodeWords_setVsetpoint : decodeWords (header 0x06#8 c) a b = .setVsetpoint c a := by simp [decodeWords]
@[simp] theorem decodeWords_setIsetpoint : decodeWords (header 0x07#8 c) a b = .setIsetpoint c a := by simp [decodeWords]
@[simp] theorem decodeWords_getVsetpoint : decodeWords (header 0x08#8 c) a b = .getVsetpoint c := by simp [decodeWords]
@[simp] theorem decodeWords_getIsetpoint : decodeWords (header 0x09#8 c) a b = .getIsetpoint c := by simp [decodeWords]
@[simp] theorem decodeWords_getVsense : decodeWords (header 0x0A#8 c) a b = .getVsense c := by simp [decodeWords]
@[simp] theorem decodeWords_getIsense : decodeWords (header 0x0B#8 c) a b = .getIsense c := by simp [decodeWords]
theorem decodeWords_setCh2Source {src : Source} (h : sourceOfCode a = some src) :
    decodeWords (header 0x0C#8 .ch2) a b = .setCh2Source src := by
  simp [decodeWords, h]
@[simp] theorem decodeWords_setPeriod : decodeWords (header 0x0D#8 c) a b = .setPeriod c a := by simp [decodeWords]
@[simp] theorem decodeWords_getPeriod : decodeWords (header 0x0E#8 c) a b = .getPeriod c := by simp [decodeWords]

end Rows

/-! ### The ILLEGAL words (R77) -/

/-- The decoder keeps a word as `reserved` exactly where R77 calls it ILLEGAL: by RSV, then by the opcode, where two rows leave a code
out and one leaves a channel out. -/
theorem decodeWords_eq_reserved_iff (h a b : Word) : decodeWords h a b = .reserved h a b ↔ illegalEncoding h a = true := by
  rw [illegalEncoding_iff, ← toNat_headerOpc, ← modeOfCode_eq_none, ← sourceOfCode_eq_none, ← channelOfBit_eq_ch1, Ne,
    ← headerRsv_eq_zero]
  unfold decodeWords
  dsimp only
  by_cases hrsv : headerRsv h = 0#23
  · rw [if_neg (not_not.mpr hrsv)]
    split
    -- SET_MODE, SET_CH2_SOURCE, and an opcode of no row; then the rows without a condition of their own
    case h_1 hopc => cases modeOfCode a <;> simp [hrsv, hopc]
    case h_12 hopc => cases channelOfBit (headerCh h) <;> cases sourceOfCode a <;> simp [hrsv, hopc]
    case h_15 =>
      refine iff_of_true rfl (.inl ?_)
      simp only [imp_false] at *
      omega
    all_goals simp_all
  · simp [hrsv]

theorem exists_decodeCommand_eq_reserved_iff (w : BitVec 96) :
    (∃ h a b, decodeCommand w = .reserved h a b) ↔ illegalEncoding (cmdH w) (cmdA w) = true := by
  rw [← decodeWords_eq_reserved_iff _ _ (cmdB w)]
  constructor
  · rintro ⟨h, a, b, e⟩
    obtain ⟨rfl, rfl, rfl⟩ := decodeWords_reserved_words e
    exact e
  · exact fun e => ⟨_, _, _, e⟩

theorem wellFormed_decodeWords (h a b : Word) : (decodeWords h a b).wellFormed = true := by
  cases e : decodeWords h a b with
  | reserved x y z =>
    obtain ⟨rfl, rfl, rfl⟩ := decodeWords_reserved_words e
    exact (decodeWords_eq_reserved_iff _ _ _).mp e
  | _ => rfl

/-! ### The fields as the statements number them -/

/-- OPC = H[7:0] in the bits of the command word (R70, R71). -/
theorem toNat_extractLsb'_opcode (w : BitVec 96) : (w.extractLsb' 64 8).toNat = (cmdH w).toNat % 256 := by
  rw [toNat_cmdH, BitVec.extractLsb'_toNat, Nat.shiftRight_eq_div_pow]

/-- RSV = H[31:9] in the bits of the command word (R70, R71). -/
theorem toNat_extractLsb'_reserved (w : BitVec 96) : (w.extractLsb' 73 23).toNat = (cmdH w).toNat / 512 := by
  rw [toNat_cmdH, BitVec.extractLsb'_toNat, Nat.shiftRight_eq_div_pow]
  omega

/-- CH = H[8] in the bits of the command word (R70, R71). -/
theorem getLsbD_channel_eq_false_iff (w : BitVec 96) : w.getLsbD 72 = false ↔ (cmdH w).toNat / 256 % 2 = 0 := by
  rw [toNat_cmdH, BitVec.getLsbD, Nat.testBit_eq_decide_div_mod_eq, decide_eq_false_iff_not]
  omega

theorem toNat_header (opc : BitVec 8) (c : Channel) : (header opc c).toNat = opc.toNat + 256 * (channelNumber c - 1) := by
  cases c <;> revert opc <;> decide

theorem toNat_packCommand (h a b : Word) : (packCommand h a b).toNat = h.toNat * 2 ^ 64 + a.toNat * 2 ^ 32 + b.toNat := by
  have hh := toNat_cmdH (packCommand h a b)
  have ha := toNat_cmdA (packCommand h a b)
  have hb := toNat_cmdB (packCommand h a b)
  rw [cmdH_packCommand] at hh
  rw [cmdA_packCommand] at ha
  rw [cmdB_packCommand] at hb
  omega

/-- The command word written as a number is the packed one (R70 to R72). -/
theorem commandWord_eq_packCommand (opc : BitVec 8) (c : Channel) (a b : Word) :
    Machine.commandWord opc.toNat c a b = packCommand (header opc c) a b := by
  rw [Machine.commandWord, ← toNat_header, ← toNat_packCommand, BitVec.ofNat_toNat, BitVec.setWidth_eq]

theorem decodeCommand_row (opc : BitVec 8) {c : Channel} {a b : Word} {i : Instr} (h : decodeWords (header opc c) a b = i) :
    decodeCommand (Machine.commandWord opc.toNat c a b) = i := by
  rw [commandWord_eq_packCommand, decodeCommand_packCommand, h]

/-! ### The obligations -/

/-- Settles O1: a command by its row, a sample word by its fields, a reserved word because it is ILLEGAL. -/
theorem decodeOfEncodeIsTheInstruction : Obligations.DecodeOfEncodeIsTheInstruction := by
  intro i hw
  cases i with
  | sample v1 i1 v2 i2 => exact decodeSample_packSample v1 i1 v2 i2
  | reserved h a b => exact (decodeCommand_packCommand h a b).trans ((decodeWords_eq_reserved_iff h a b).mpr hw)
  | setMode c m => exact (decodeCommand_packCommand ..).trans (decodeWords_setMode c _ _ (modeOfCode_modeCode m))
  | setCh2Source src => exact (decodeCommand_packCommand ..).trans (decodeWords_setCh2Source _ _ (sourceOfCode_sourceCode src))
  | getMode c | setDuty c d1 d2 | getDuty1 c | getDuty2 c | setVsetpoint c v | setIsetpoint c v | getVsetpoint c | getIsetpoint c
  | getVsense c | getIsense c | setPeriod c p | getPeriod c => simp [encode, decode, decodeCommand_packCommand]

/-- Settles O2: the word is a header of the row's opcode, its operands behind it. -/
theorem commandWordsDecodeToTheirTableRow : Obligations.CommandWordsDecodeToTheirTableRow := by
  intro c a b
  refine ⟨⟨?_, ?_, ?_, ?_, ?_⟩, ?_, ?_, ?_, ?_, ?_, ?_, ?_, ?_, ?_, ?_, ⟨?_, ?_⟩, ?_, ?_⟩
  · exact decodeCommand_row 0x01 (decodeWords_setMode c _ b rfl)
  · exact decodeCommand_row 0x01 (decodeWords_setMode c _ b rfl)
  · exact decodeCommand_row 0x01 (decodeWords_setMode c _ b rfl)
  · exact decodeCommand_row 0x01 (decodeWords_setMode c _ b rfl)
  · exact decodeCommand_row 0x01 (decodeWords_setMode c _ b rfl)
  · exact decodeCommand_row 0x02 (decodeWords_getMode c a b)
  · exact decodeCommand_row 0x03 (decodeWords_setDuty c a b)
  · exact decodeCommand_row 0x04 (decodeWords_getDuty1 c a b)
  · exact decodeCommand_row 0x05 (decodeWords_getDuty2 c a b)
  · exact decodeCommand_row 0x06 (decodeWords_setVsetpoint c a b)
  · exact decodeCommand_row 0x07 (decodeWords_setIsetpoint c a b)
  · exact decodeCommand_row 0x08 (decodeWords_getVsetpoint c a b)
  · exact decodeCommand_row 0x09 (decodeWords_getIsetpoint c a b)
  · exact decodeCommand_row 0x0A (decodeWords_getVsense c a b)
  · exact decodeCommand_row 0x0B (decodeWords_getIsense c a b)
  · exact decodeCommand_row 0x0C (decodeWords_setCh2Source _ b rfl)
  · exact decodeCommand_row 0x0C (decodeWords_setCh2Source _ b rfl)
  · exact decodeCommand_row 0x0D (decodeWords_setPeriod c a b)
  · exact decodeCommand_row 0x0E (decodeWords_getPeriod c a b)

/-- Settles O3: R77's conditions on the fields, and the ILLEGAL response is all an ILLEGAL command does. -/
theorem illegalWordsAreThoseOfTheFiveConditions : Obligations.IllegalWordsAreThoseOfTheFiveConditions := by
  refine ⟨fun w => ?_, fun _ _ _ _ => rfl⟩
  rw [exists_decodeCommand_eq_reserved_iff, illegalEncoding_iff, toNat_extractLsb'_opcode, toNat_extractLsb'_reserved,
    getLsbD_channel_eq_false_iff]
  rfl

/-- Settles O4: a command word that is kept as reserved is ILLEGAL; every other answer is well-formed as it stands. -/
theorem decodedInstructionsAreWellFormed : Obligations.DecodedInstructionsAreWellFormed := by
  intro p
  cases p with
  | command w => exact wellFormed_decodeWords (cmdH w) (cmdA w) (cmdB w)
  | sample w => rfl

/-- Settles O5: the four fields are the whole word. -/
theorem encodeOfDecodedSampleIsTheWord : Obligations.EncodeOfDecodedSampleIsTheWord := by
  intro w
  refine congrArg PortWord.sample ?_
  have hjoin (start₁ len₁ start₂ len₂ : Nat) (h : start₂ = start₁ + len₁) :
      w.extractLsb' start₂ len₂ ++ w.extractLsb' start₁ len₁ = w.extractLsb' start₁ (len₂ + len₁) :=
    BitVec.extractLsb'_append_extractLsb'_eq_extractLsb' h
  rw [packSample, hjoin 32 16 48 16 rfl, hjoin 16 16 32 32 rfl, hjoin 0 16 16 48 rfl, BitVec.extractLsb'_eq_self]

/-- Settles O6: each word evaluates to its instruction. -/
theorem wordsOfEachFamilyDecode : Obligations.WordsOfEachFamilyDecode := by
  unfold Obligations.WordsOfEachFamilyDecode
  decide

end Sys2Proof

namespace Sys2Proof.Machine

/-!
CONFIGURE's ends (R173, R176, R222, R226, R306). Each end of the synthesizer's two procedures is an equation in the words of the
statement; CONFIGURE puts the tick checks before them.
-/

/-! ### The synthesizer, end by end -/

/-- An output configured and acknowledged, then enabled and its timer started (R173). -/
def started (t : Timer) (u : OcUnit) (p : Word) (pol : Polarity) (n : Nat) (s : State) : State :=
  afterOps [.enableOutput t u, .start t] (afterCfgOutput t u p pol n s).2

theorem afterOps_afterOps (ops ops' : List DriverOp) (s : State) : afterOps ops' (afterOps ops s) = afterOps (ops ++ ops') s := by
  simp [afterOps]

section Single

variable {t : Timer} {u : OcUnit} {p : Word} {pol : Polarity} {n : Nat} {s : State}

theorem configureSingle_of_refused (h : (afterCfgOutput t u p pol n s).1 = false) :
    configureSingle t u p pol n s = (false, (afterCfgOutput t u p pol n s).2) :=
  if_neg (Bool.eq_false_iff.mp h)

theorem configureSingle_of_acknowledged (h : (afterCfgOutput t u p pol n s).1 = true) :
    configureSingle t u p pol n s = (true, started t u p pol n s) :=
  if_pos h

end Single

theorem sub_eq_ofNat_toNat_sub {phase p : Word} (h : phase.toNat < p.toNat) :
    p - phase = BitVec.ofNat 32 (p.toNat - phase.toNat) := by
  rw [← BitVec.toNat_sub_of_le (BitVec.le_def.mpr h.le), BitVec.ofNat_toNat, BitVec.setWidth_eq]

section Dual

variable {tA tB : Timer} {uA uB : OcUnit} {p phase : Word} {na nb : Nat} {polA polB : Polarity} {s : State}

theorem phaseTooLarge_iff (phase period : Word) : phaseTooLarge phase period = true ↔ ¬ phase.toNat < period.toNat := by
  simp [phaseTooLarge]

theorem configureDual_of_phaseTooLarge (h : ¬ phase.toNat < p.toNat) :
    configureDual tA uA tB uB p na nb phase polA polB s = (false, s) :=
  if_pos ((phaseTooLarge_iff phase p).mpr h)

theorem configureDual_of_refusedA (hphase : phase.toNat < p.toNat) (hA : (afterCfgOutput tA uA p polA na s).1 = false) :
    configureDual tA uA tB uB p na nb phase polA polB s = (false, (afterCfgOutput tA uA p polA na s).2) := by
  simp [configureDual, phaseTooLarge_iff, hphase, configureSingle_of_refused hA]

theorem configureDual_of_refusedB (hphase : phase.toNat < p.toNat) (hA : (afterCfgOutput tA uA p polA na s).1 = true)
    (hB : (afterCfgOutput tB uB p polB nb (started tA uA p polA na s)).1 = false) :
    configureDual tA uA tB uB p na nb phase polA polB s =
      (false, (afterCfgOutput tB uB p polB nb (started tA uA p polA na s)).2) := by
  simp [configureDual, phaseTooLarge_iff, hphase, configureSingle_of_acknowledged hA, configureSingle_of_refused hB]

theorem configureDual_of_acknowledged (hphase : phase.toNat < p.toNat) (hA : (afterCfgOutput tA uA p polA na s).1 = true)
    (hB : (afterCfgOutput tB uB p polB nb (started tA uA p polA na s)).1 = true) :
    configureDual tA uA tB uB p na nb phase polA polB s =
      (true, afterOps
        [.enableOutput tB uB, .start tB, .setMasterMode tA, .setSlaveTrigger tB tA,
          .primePeriod tA (BitVec.ofNat 32 (p.toNat - phase.toNat)) p]
        (afterCfgOutput tB uB p polB nb (started tA uA p polA na s)).2) := by
  have hdual : configureDual tA uA tB uB p na nb phase polA polB s =
      (true, emitAll [.setMasterMode tA, .setSlaveTrigger tB tA, .primePeriod tA (p - phase) p]
        (started tB uB p polB nb (started tA uA p polA na s))) := by
    simp [configureDual, phaseTooLarge_iff, hphase, configureSingle_of_acknowledged hA, configureSingle_of_acknowledged hB]
  rw [hdual, sub_eq_ofNat_toNat_sub hphase]
  exact congrArg (Prod.mk true) (afterOps_afterOps [.enableOutput tB uB, .start tB] _ _)

end Dual

theorem unitOf_eq_ite (src : Source) : unitOf src = if src = .battery then .ubat else .uin := by
  cases src <;> rfl

theorem not_tickOverflows {n : Nat} (h : n ≤ 0xFFFF) : ¬ tickOverflows n = true := by
  rw [tickOverflows_iff]
  omega

/-! ### CONFIGURE -/

theorem configure2Ends (s : State) : Configure2Ends s (configure .ch2 s) := by
  unfold Configure2Ends
  rw [← unitOf_eq_ite]
  refine ⟨fun h => ?_, fun h hack => ?_, fun h hack => ?_⟩
  · exact if_pos ((tickOverflows_iff _).mpr h)
  · exact (if_neg (not_tickOverflows h)).trans (congrArg configuredOf (configureSingle_of_refused hack))
  · exact (if_neg (not_tickOverflows h)).trans (congrArg configuredOf (configureSingle_of_acknowledged hack))

/-- With both tick counts in range, CONFIGURE(1) is the dual output's configuration (R222). -/
theorem configure_ch1_of_fits {s : State} (ha : ticks s.ch1.duty1 s.ch1.period ≤ 0xFFFF) (hb : ticks s.ch1.duty2 s.ch1.period ≤ 0xFFFF) :
    configure .ch1 s = configuredOf (configureDual .ta .ua .tb .ub s.ch1.period (ticks s.ch1.duty1 s.ch1.period)
      (ticks s.ch1.duty2 s.ch1.period) s.params.phaseOffset s.params.polA s.params.polB s) :=
  (if_neg (not_tickOverflows ha)).trans (if_neg (not_tickOverflows hb))

theorem configure1Ends (s : State) : Configure1Ends s (configure .ch1 s) := by
  refine ⟨fun h => ?_, fun ha hb => ?_, fun ⟨ha, hb⟩ hphase => ?_, fun ⟨ha, hb⟩ hphase hA => ?_, fun ⟨ha, hb⟩ hphase hA hB => ?_,
    fun ⟨ha, hb⟩ hphase hA hB => ?_⟩
  · exact if_pos ((tickOverflows_iff _).mpr h)
  · exact (if_neg (not_tickOverflows ha)).trans (if_pos ((tickOverflows_iff _).mpr hb))
  · exact (configure_ch1_of_fits ha hb).trans (congrArg configuredOf (configureDual_of_phaseTooLarge hphase))
  · exact (configure_ch1_of_fits ha hb).trans (congrArg configuredOf (configureDual_of_refusedA hphase hA))
  · exact (configure_ch1_of_fits ha hb).trans (congrArg configuredOf (configureDual_of_refusedB hphase hA hB))
  · exact (configure_ch1_of_fits ha hb).trans (congrArg configuredOf (configureDual_of_acknowledged hphase hA hB))

/-- Settles O30: each channel's ends. -/
theorem configureFollowsItsRule : Obligations.ConfigureFollowsItsRule :=
  fun s => ⟨configure1Ends s, configure2Ends s⟩

end Sys2Proof.Machine

namespace Sys2Proof.Machine

/-!
The sense registers in a SAMPLE (R82, R130): written first, and left alone by both FEEDBACKs, whether or not one of them raises Fatal.
-/

/-- The sense registers of both channels, voltage first (R25). -/
def sensesOf (s : State) : (Codepoint × Codepoint) × (Codepoint × Codepoint) :=
  ((s.ch1.vsense, s.ch1.isense), (s.ch2.vsense, s.ch2.isense))

@[simp] theorem sensesOf_emitAll (ops : List DriverOp) (s : State) : sensesOf (emitAll ops s) = sensesOf s := rfl
@[simp] theorem sensesOf_raiseFatal (c : Channel) (t : Timer) (u : OcUnit) (n : Nat) (s : State) :
    sensesOf (raiseFatal c t u n s) = sensesOf s := rfl
@[simp] theorem sensesOf_modChan_setDuties (c : Channel) (d1 d2 : Word) (s : State) :
    sensesOf (modChan c (Chan.setDuties d1 d2) s) = sensesOf s := by
  cases c <;> rfl
@[simp] theorem sensesOf_writeSenses (v1 i1 v2 i2 : Codepoint) (s : State) :
    sensesOf (writeSenses v1 i1 v2 i2 s) = ((v1, i1), (v2, i2)) := rfl

@[simp] theorem sensesOf_updateDuty (c : Channel) (s : State) : sensesOf (updateDuty c s).state = sensesOf s := by
  rcases updateDuty_cases c s with ⟨_, _, _, e⟩ | ⟨_, _, _, _, _, _, _, _, e⟩ <;> simp [e]

@[simp] theorem sensesOf_feedback (c : Channel) (s : State) : sensesOf (feedback c s).state = sensesOf s := by
  rcases feedback_cases c s with ⟨_, e⟩ | ⟨_, _, e⟩ <;> simp [e]

theorem sensesOf_execSample {v1 i1 v2 i2 : Codepoint} {s t : State} (h : execSample v1 i1 v2 i2 s = .next t) :
    sensesOf t = ((v1, i1), (v2, i2)) := by
  cases h
  have h1 := sensesOf_feedback .ch1 (writeSenses v1 i1 v2 i2 s)
  rw [sensesOf_writeSenses] at h1
  cases hf : feedback .ch1 (writeSenses v1 i1 v2 i2 s) <;> simpa [hf] using h1

/-- Settles O36: the registers hold the word's fields, and a field is a quotient and a remainder of the word. -/
theorem sampleWordFieldsReachTheSenseRegisters : Obligations.SampleWordFieldsReachTheSenseRegisters := by
  intro w s
  obtain ⟨t, ht⟩ := exec_next (decodeSample w) s
  have hsenses := sensesOf_execSample ht
  simp only [sensesOf, Prod.mk.injEq] at hsenses
  obtain ⟨⟨hv1, hi1⟩, hv2, hi2⟩ := hsenses
  refine ⟨t, ht, ?_, ?_, ?_, ?_⟩
  · rw [hv1, BitVec.extractLsb'_toNat]
    rfl
  · rw [hi1, BitVec.extractLsb'_toNat, Nat.shiftRight_eq_div_pow]
  · rw [hv2, BitVec.extractLsb'_toNat, Nat.shiftRight_eq_div_pow]
  · rw [hi2, BitVec.extractLsb'_toNat, Nat.shiftRight_eq_div_pow]
    omega

end Sys2Proof.Machine

namespace Sys2Proof.Machine

/-!
Two inputs that change no register: a read, which only responds (R106, R251, R252, R263), and an indication nothing waits for (log 4).
-/

/-- Settles O16: GET_MODE's data is the mode's code (R75); the other reads answer the register itself. -/
theorem registerReadsRespondWithTheRegister : Obligations.RegisterReadsRespondWithTheRegister := by
  refine fun c s => ⟨⟨(modeCode (s.chan c).mode).zeroExtend 32, ?_, rfl⟩, rfl, rfl, rfl⟩
  cases (s.chan c).mode <;> rfl

/-- An input that is no command is taken from the head of the inputs in every state (R51, R52, R311). -/
theorem nextInput_of_noncommand_head {s : State} {i : Input} {rest : List Input} (hbox : s.inbox = i :: rest)
    (hi : ∀ w, i ≠ .command w) : nextInput s = some (i, rest) := by
  by_cases h : s.held.isSome = true ∨ s.halted = true
  · rw [nextInput_of_heldOrHalted h, hbox]
    exact firstNonCommand_append [] rest i (by simp) hi
  · have hacc : AcceptsCommand s := by simpa [not_or, and_comm] using h
    exact nextInput_of_accepting hacc hbox

theorem serveReady_of_unawaited {s : State} {x : ReadyWait} (h : ∀ k, s.held = some k → k.wait ≠ x) :
    serveReady x s = .next s := by
  unfold serveReady
  split
  · rename_i k hk
    exact if_neg (by simp [h k hk])
  · rfl

/-- Settles O33: the indication is the input taken, and serving it leaves the state as it is. -/
theorem unawaitedReadyChangesNothing : Obligations.UnawaitedReadyChangesNothing := by
  intro s x rest hbox hwait
  rw [step_of_nextInput (nextInput_of_noncommand_head hbox (by simp))]
  exact serveReady_of_unawaited (s := setInbox rest s) hwait

end Sys2Proof.Machine

namespace Sys2Proof.Machine

/-!
The mode state machine (R100 to R105). SET_MODE's three ways through are read off `execSetMode_cases`; `configureAndSetMode_cases` says
once how CONFIGURE's three ends finish a command. From it follow both which modes a command can leave (R100) and what a channel whose
command ended in CONFIG_FAULT is left as (R105).
-/

/-! ### SET_MODE, way by way -/

/-- Settles O26: SET_MODE's first arm is the rejection. -/
theorem setModeMaxPowerIsRejected : Obligations.SetModeMaxPowerIsRejected := fun _ _ => rfl

/-- Settles O27: SET_MODE to Disabled is the teardown with OK, in the statement's words. -/
theorem setModeDisabledTearsDown : Obligations.SetModeDisabledTearsDown := by
  intro c s
  rw [tornDown_eq_disableAndRespond]
  rfl

/-- Settles O28: out of Disabled SET_MODE is ENABLE, which always holds since it has just set its channel active. -/
theorem setModeFromDisabledEnablesAndHolds : Obligations.SetModeFromDisabledEnablesAndHolds := by
  intro c m s hmode hd hp
  rcases execSetMode_cases c m s with ⟨hm, _⟩ | ⟨hm, _⟩ | ⟨_, _, ⟨_, e⟩ | ⟨hne, _⟩⟩
  · exact absurd hm hp
  · exact absurd hm hd
  · rw [enable_eq] at e
    refine Eq.trans e ?_
    cases c <;> rfl
  · exact absurd hmode hne

/-- Settles O29: between two non-Disabled modes SET_MODE is CONFIGURE and what follows it. -/
theorem setModeFromRunningReconfigures : Obligations.SetModeFromRunningReconfigures := by
  intro c m s hmode hd hp
  rw [afterConfigure_eq_configureAndSetMode]
  rcases execSetMode_cases c m s with ⟨hm, _⟩ | ⟨hm, _⟩ | ⟨_, _, ⟨heq, _⟩ | ⟨_, e⟩⟩
  · exact absurd hm hp
  · exact absurd hm hd
  · exact absurd heq hmode
  · exact e

/-! ### The channel's registers after each part of a mode change -/

theorem OutputsAndAcks.chan_eq {s t : State} (h : OutputsAndAcks s t) (c : Channel) : t.chan c = s.chan c := by
  obtain ⟨_, _, _, rfl⟩ := h
  cases c <;> rfl

@[simp] theorem chan_enable (c : Channel) (k : Resumption) (rest : State → State) (s : State) :
    (enable c k rest s).chan c = (s.chan c).setActive true := by
  simp [enable_eq]

/-- R105: the teardown leaves its channel Disabled and not active, whether or not it holds. -/
@[simp] theorem chan_disableAndRespond (c : Channel) (st : Status) (s : State) :
    (disableAndRespond c st s).chan c = ((s.chan c).setMode .disabled).setActive false := by
  cases h : (s.chan (otherChannel c)).active with
  | true => simp [disableAndRespond_of_active c st s h]
  | false =>
    rw [disableAndRespond_of_inactive c st s h]
    cases c <;> rfl

@[simp] theorem chan_recomputeAfterOsc (k : Resumption) (s : State) (c : Channel) : (recomputeAfterOsc k s).chan c = s.chan c := by
  cases c <;> rfl

@[simp] theorem chan_recomputeAfterAdc (s : State) (c : Channel) : (recomputeAfterAdc s).chan c = s.chan c := by
  cases c <;> rfl

/-- CONFIGURE's ends in a mode change: OK with the mode written, CONFIG_FAULT with the channel torn down, Fatal (R101, R105, R107). -/
theorem configureAndSetMode_cases (c : Channel) (m : Mode) (s : State) :
    ∃ u, OutputsAndAcks s u ∧
      (configureAndSetMode c m s = respond .ok 0#32 (modChan c (Chan.setMode m) u) ∨
        configureAndSetMode c m s = disableAndRespond c .configFault u ∨
        ∃ t o n, configureAndSetMode c m s = raiseFatal c t o n u) := by
  unfold configureAndSetMode
  rcases configure_cases c s with ⟨t, o, _, _, _, e⟩ | ⟨u, hu, e | e⟩ <;> rw [e]
  · exact ⟨s, .refl s, .inr (.inr ⟨t, o, _, rfl⟩)⟩
  · exact ⟨u, hu, .inl rfl⟩
  · exact ⟨u, hu, .inr (.inl rfl)⟩

/-! ### The modes -/

theorem mode_configureAndSetMode (c : Channel) (m : Mode) (s : State) :
    ((configureAndSetMode c m s).chan c).mode = m ∨ ((configureAndSetMode c m s).chan c).mode = .disabled ∨
      ((configureAndSetMode c m s).chan c).mode = (s.chan c).mode := by
  obtain ⟨u, hu, e | e | ⟨_, _, _, e⟩⟩ := configureAndSetMode_cases c m s
  · simp [e]
  · simp [e]
  · simp [e, hu.chan_eq]

theorem mode_modChan (c c' : Channel) {f : Chan → Chan} (hf : ∀ ch, (f ch).mode = ch.mode) (s : State) :
    ((modChan c f s).chan c').mode = (s.chan c').mode := by
  cases c <;> cases c' <;> simp [hf]

@[simp] theorem chan_updateDuty (c c' : Channel) (s : State) : (updateDuty c s).state.chan c' = s.chan c' := by
  rcases updateDuty_cases c s with ⟨_, _, _, e⟩ | ⟨_, _, _, _, _, _, _, _, e⟩ <;> simp [e]

/-- FEEDBACK writes duties only. -/
theorem mode_feedback (c c' : Channel) (s : State) : ((feedback c s).state.chan c').mode = (s.chan c').mode := by
  rcases feedback_cases c s with ⟨_, e⟩ | ⟨_, _, e⟩
  · rw [e, Flow.state_on]
  · rw [e, chan_updateDuty]
    exact mode_modChan c c' (by simp) s

theorem mode_execSample {v1 i1 v2 i2 : Codepoint} {s t : State} (h : execSample v1 i1 v2 i2 s = .next t) (c : Channel) :
    (t.chan c).mode = (s.chan c).mode := by
  have hsenses : ((writeSenses v1 i1 v2 i2 s).chan c).mode = (s.chan c).mode :=
    (mode_modChan .ch2 c (by simp) _).trans (mode_modChan .ch1 c (by simp) s)
  have h1 := (mode_feedback .ch1 c _).trans hsenses
  cases h
  cases e : feedback .ch1 (writeSenses v1 i1 v2 i2 s) <;> rw [e] at h1
  case on u => exact (mode_feedback .ch2 c u).trans h1
  case ended u => exact h1

/-- A channel whose mode changes is the one a transaction that leaves the other alone works on. -/
theorem channel_eq_of_mode_ne {c c' : Channel} {s t : State} (ho : t.chan (otherChannel c) = s.chan (otherChannel c))
    (hne : (t.chan c').mode ≠ (s.chan c').mode) : c' = c := by
  cases c <;> cases c'
  case ch1.ch1 | ch2.ch2 => rfl
  case ch1.ch2 | ch2.ch1 => exact absurd (congrArg Chan.mode ho) hne

/-- R100: no SAMPLE and no ILLEGAL word changes a mode, and a command changes at most that of the channel it addresses. -/
theorem addressedChannel_of_mode_ne {i : Instr} {c : Channel} {s t : State} (h : exec i s = .next t)
    (hne : (t.chan c).mode ≠ (s.chan c).mode) : addressedChannel i = some c := by
  cases ha : addressedChannel i with
  | some c' =>
    obtain ⟨ho, _⟩ := commandsLeaveTheOtherChannelAlone i c' s t ha h
    rw [channel_eq_of_mode_ne ho hne]
  | none =>
    refine absurd ?_ hne
    cases i with
    | sample v1 i1 v2 i2 => exact mode_execSample h c
    | reserved x a b =>
      cases h
      rw [respond_chan]
    | _ => cases ha

theorem mode_execSetMode {c : Channel} {m : Mode} {s t : State} (h : execSetMode c m s = .next t) :
    (t.chan c).mode = m ∨ (t.chan c).mode = .disabled ∨ (t.chan c).mode = (s.chan c).mode := by
  rcases execSetMode_cases c m s with ⟨_, e⟩ | ⟨_, e⟩ | ⟨_, _, ⟨_, e⟩ | ⟨_, e⟩⟩ <;> cases e.symm.trans h
  · simp
  · simp
  · simp
  · exact mode_configureAndSetMode c m s

theorem mode_execSetDuty {c : Channel} {d1 d2 : Word} {s t : State} (h : execSetDuty c d1 d2 s = .next t) :
    (t.chan c).mode = .disabled ∨ (t.chan c).mode = (s.chan c).mode := by
  rcases execSetDuty_cases c d1 d2 s with e | ⟨_, _, ⟨_, e⟩ | ⟨_, e⟩⟩ <;> cases e.symm.trans h
  · simp
  · simp
  · rw [reconfigured_eq_configureAndSetMode]
    rcases mode_configureAndSetMode c _ (modChan c (Chan.setDuties d1 d2) s) with hm | hm | hm
    · exact .inr (hm.trans (by simp))
    · exact .inl hm
    · exact .inr (hm.trans (by simp))

/-- R100 for an instruction. -/
theorem exec_of_mode_ne {i : Instr} {c : Channel} {s t : State} (h : exec i s = .next t)
    (hne : (t.chan c).mode ≠ (s.chan c).mode) :
    (∃ m, i = .setMode c m ∧ ((t.chan c).mode = m ∨ (t.chan c).mode = .disabled)) ∨
      ((∃ d1 d2, i = .setDuty c d1 d2) ∧ (t.chan c).mode = .disabled) := by
  have ha := addressedChannel_of_mode_ne h hne
  cases i with
  | setMode c' m =>
    cases ha
    rcases mode_execSetMode h with hm | hm | hm
    · exact .inl ⟨m, rfl, .inl hm⟩
    · exact .inl ⟨m, rfl, .inr hm⟩
    · exact absurd hm hne
  | setDuty c' d1 d2 =>
    cases ha
    exact .inr ⟨⟨d1, d2, rfl⟩, (mode_execSetDuty h).resolve_right hne⟩
  | setVsetpoint _ _ | setIsetpoint _ _ | setPeriod _ _ | setCh2Source _ =>
    cases ha
    cases h
    refine absurd ?_ hne
    split <;> simp
  | getMode _ | getDuty1 _ | getDuty2 _ | getVsetpoint _ | getIsetpoint _ | getVsense _ | getIsense _ | getPeriod _ =>
    cases h
    exact absurd (congrArg Chan.mode (respond_chan ..)) hne
  | sample _ _ _ _ | reserved _ _ _ => cases ha

/-- R100 for the part of a held command that a READY lets go on. -/
theorem continueHeld_of_mode_ne {h : Held} {c : Channel} {s : State} (hne : ((continueHeld h s).chan c).mode ≠ (s.chan c).mode) :
    ∃ m, h.rest = .configure c m ∧
      (((continueHeld h s).chan c).mode = m ∨ ((continueHeld h s).chan c).mode = .disabled) := by
  obtain ⟨x, k⟩ := h
  cases x with
  | osc => exact absurd (congrArg Chan.mode (chan_recomputeAfterOsc k s c)) hne
  | adc =>
    cases k with
    | respond st => exact absurd (by simp [continueHeld, resume]) hne
    | configure c' m =>
      have ho : outside c' (continueHeld ⟨.adc, .configure c' m⟩ s) = outside c' s := by simp [continueHeld, resume]
      obtain ⟨_, ho, _⟩ := (outside_eq_iff ..).mp ho
      obtain rfl := channel_eq_of_mode_ne ho hne
      refine ⟨m, rfl, ?_⟩
      rcases mode_configureAndSetMode c m (recomputeAfterAdc s) with hm | hm | hm
      · exact .inl hm
      · exact .inr hm
      · exact absurd (hm.trans (by simp)) hne

/-- Settles O48: no other instruction, and no other rest of a held command, writes a mode. -/
theorem onlySetModeLeavesDisabled : Obligations.OnlySetModeLeavesDisabled :=
  ⟨fun _ _ _ _ => exec_of_mode_ne, fun _ _ _ => continueHeld_of_mode_ne⟩

/-! ### Commands that end in CONFIG_FAULT -/

/-- From `s` to `t` a command has ended in CONFIG_FAULT: the response is given, or owed by a teardown that holds (R105). -/
abbrev EndsInConfigFault (s t : State) : Prop :=
  t.responses = s.responses ++ [⟨.configFault, 0#32⟩] ∨ ∃ x, t.held = some ⟨x, .respond .configFault⟩

theorem not_endsInConfigFault_respond {st : Status} (hst : st ≠ .configFault) {s u : State} (hr : u.responses = s.responses)
    (hh : u.held = none) (d : Word) : ¬ EndsInConfigFault s (respond st d u) := by
  simp [EndsInConfigFault, hr, hh, hst]

theorem not_endsInConfigFault_of_silent {s t : State} (h : Silent s t) (hh : ∀ x, t.held ≠ some ⟨x, .respond .configFault⟩) :
    ¬ EndsInConfigFault s t := by
  simp [EndsInConfigFault, h.responses, hh]

/-- A teardown that gives or owes another status is no end in CONFIG_FAULT. -/
theorem not_endsInConfigFault_disableAndRespond {st : Status} (hst : st ≠ .configFault) {c : Channel} {s : State}
    (hh : s.held = none) : ¬ EndsInConfigFault s (disableAndRespond c st s) := by
  cases h : (s.chan (otherChannel c)).active with
  | true => simp [EndsInConfigFault, disableAndRespond_of_active c st s h, hst]
  | false =>
    rw [disableAndRespond_of_inactive c st s h]
    exact not_endsInConfigFault_respond hst (by simp) (by simp [hh]) 0#32

/-- R105: CONFIG_FAULT comes only from CONFIGURE's FAIL, and then the channel has been torn down. -/
theorem chan_configureAndSetMode_of_configFault {c : Channel} {m : Mode} {s : State} (hh : s.held = none)
    (hend : EndsInConfigFault s (configureAndSetMode c m s)) :
    (configureAndSetMode c m s).chan c = ((s.chan c).setMode .disabled).setActive false := by
  obtain ⟨u, hu, e | e | ⟨_, _, _, e⟩⟩ := configureAndSetMode_cases c m s <;> rw [e] at hend ⊢
  · refine absurd hend (not_endsInConfigFault_respond (by decide) ?_ ?_ 0#32)
    · simpa using hu.silent.responses
    · obtain ⟨_, _, _, rfl⟩ := hu
      simpa using hh
  · rw [chan_disableAndRespond, hu.chan_eq]
  · exact absurd hend (not_endsInConfigFault_of_silent (hu.silent.trans (silent_raiseFatal ..)) (by simp))

/-- A torn-down channel has its settings, and the duties it was torn down with. -/
theorem downWithSettingsOf_of_chan_eq {c : Channel} {s t : State} {d1 d2 : Word}
    (h : t.chan c = (((s.chan c).setDuties d1 d2).setMode .disabled).setActive false) :
    downWithSettingsOf c s t ∧ (t.chan c).duty1 = d1 ∧ (t.chan c).duty2 = d2 := by
  simp [downWithSettingsOf, h]

theorem execSetMode_of_configFault {c : Channel} {m : Mode} {s t : State} (h : execSetMode c m s = .next t) (hh : s.held = none)
    (hend : EndsInConfigFault s t) :
    m ≠ .disabled ∧ t.chan c = ((s.chan c).setMode .disabled).setActive false := by
  rcases execSetMode_cases c m s with ⟨_, e⟩ | ⟨_, e⟩ | ⟨hm, _, ⟨_, e⟩ | ⟨_, e⟩⟩ <;> cases e.symm.trans h
  · exact absurd hend (not_endsInConfigFault_respond (by decide) rfl hh _)
  · exact absurd hend (not_endsInConfigFault_disableAndRespond (by decide) hh)
  · exact absurd hend (not_endsInConfigFault_of_silent (silent_enable ..) (by simp [enable_eq]))
  · exact ⟨hm, chan_configureAndSetMode_of_configFault hh hend⟩

theorem execSetDuty_of_configFault {c : Channel} {d1 d2 : Word} {s t : State} (h : execSetDuty c d1 d2 s = .next t)
    (hh : s.held = none) (hend : EndsInConfigFault s t) :
    t.chan c = (((s.chan c).setDuties d1 d2).setMode .disabled).setActive false := by
  rcases execSetDuty_cases c d1 d2 s with e | ⟨_, _, ⟨_, e⟩ | ⟨_, e⟩⟩ <;> cases e.symm.trans h
  · exact absurd hend (not_endsInConfigFault_respond (by decide) rfl hh _)
  · exact absurd hend (not_endsInConfigFault_respond (by decide) (by simp) (by simpa using hh) _)
  · rw [reconfigured_eq_configureAndSetMode] at hend ⊢
    rw [chan_configureAndSetMode_of_configFault (by simpa using hh) (by simpa [EndsInConfigFault] using hend), modChan_chan_same]

/-- Every command but SET_MODE and SET_DUTY ends in a response of its own, which is never CONFIG_FAULT (R303). -/
theorem exec_of_configFault {i : Instr} {c : Channel} {s t : State} (ha : addressedChannel i = some c) (h : exec i s = .next t)
    (hh : s.held = none) (hend : EndsInConfigFault s t) :
    downWithSettingsOf c s t ∧
      ((∃ m, i = .setMode c m ∧ m ≠ .disabled ∧ (t.chan c).duty1 = (s.chan c).duty1 ∧ (t.chan c).duty2 = (s.chan c).duty2) ∨
        i = .setDuty c (t.chan c).duty1 (t.chan c).duty2) := by
  cases i with
  | setMode _ m =>
    cases ha
    obtain ⟨hm, hc⟩ := execSetMode_of_configFault h hh hend
    obtain ⟨hdown, hd⟩ := downWithSettingsOf_of_chan_eq hc
    exact ⟨hdown, .inl ⟨m, rfl, hm, hd⟩⟩
  | setDuty _ d1 d2 =>
    cases ha
    obtain ⟨hdown, hd1, hd2⟩ := downWithSettingsOf_of_chan_eq (execSetDuty_of_configFault h hh hend)
    exact ⟨hdown, .inr (by rw [hd1, hd2])⟩
  | setVsetpoint _ _ | setIsetpoint _ _ | setPeriod _ _ | setCh2Source _ =>
    cases h
    refine absurd hend ?_
    split <;> exact not_endsInConfigFault_respond (by decide) (by simp) (by simpa using hh) _
  | getMode _ | getDuty1 _ | getDuty2 _ | getVsetpoint _ | getIsetpoint _ | getVsense _ | getIsense _ | getPeriod _ =>
    cases h
    exact absurd hend (not_endsInConfigFault_respond (by decide) rfl hh _)
  | sample _ _ _ _ | reserved _ _ _ => cases ha

/-- Settles O51: at once it is what SET_MODE or SET_DUTY leaves; after READY(ADC) it is what the held SET_MODE's CONFIGURE leaves, no
command being held any more. -/
theorem configFaultLeavesTheChannelDisabled : Obligations.ConfigFaultLeavesTheChannelDisabled := by
  refine ⟨fun _ _ _ _ => exec_of_configFault, fun c m s t before rest hr hk hbox hb h hend => ?_⟩
  cases (step_of_awaited_ready hr hk hbox hb).symm.trans h
  have hc := chan_configureAndSetMode_of_configFault (m := m) (s := recomputeAfterAdc (setInbox (before ++ rest) s)) rfl hend
  rw [chan_recomputeAfterAdc, setInbox_chan] at hc
  exact downWithSettingsOf_of_chan_eq hc

end Sys2Proof.Machine


namespace Sys2Proof.Machine

/-!
MIX, row by row (R140 to R148, R151): the three near-rail tests as inequalities, then the branch each row takes, then the invariant step
as a minimum.
-/

theorem nearFull_iff (d : Int) : nearFull d = true ↔ 63536 < d := decide_eq_true_iff

theorem nearZero_iff (d : Int) : nearZero d = true ↔ d < 2000 := decide_eq_true_iff

theorem aboveMargin_iff (d : Int) : aboveMargin d = true ↔ 2000 < d := decide_eq_true_iff

/-- A division by a positive number rounds toward minus infinity (R146). -/
theorem gainDelta_eq_fdiv (err : Int) (g : Word) : gainDelta err g = (err * g.toInt).fdiv 65536 :=
  (Int.fdiv_eq_ediv_of_nonneg _ (by decide)).symm

theorem invariantStep_eq_min (d1 d2 : Int) : invariantStep (d1, d2) = (d1, min d2 d1) := by
  unfold invariantStep
  split
  · rw [min_eq_right (le_of_lt ‹_›)]
  · rw [min_eq_left (not_lt.mp ‹_›)]

section Rows

variable {err : Int} (g : GainPair) {d1 d2 : Int}

theorem mixBranch_of_bothNearFull (he : err < 0) (h1 : 63536 < d1) (h2 : 63536 < d2) : mixBranch err g d1 d2 = (half, half) := by
  simp [mixBranch, nearFull_iff, he, h1, h2]

theorem mixBranch_of_nearFull (he : err < 0) (h1 : 63536 < d1) (h2 : d2 ≤ 63536) :
    mixBranch err g d1 d2 = (d1, d2 - gainDelta err g.g2) := by
  simp [mixBranch, nearFull_iff, he, h1, h2.not_gt]

theorem mixBranch_of_nearZero (he : 0 < err) (h1 : d1 < 2000) : mixBranch err g d1 d2 = (d1, d2 - gainDelta err g.g2) := by
  simp [mixBranch, nearZero_iff, he, he.not_gt, h1]

theorem mixBranch_of_aboveMargin (he : err < 0) (h1 : d1 ≤ 63536) (h2 : 2000 < d2) :
    mixBranch err g d1 d2 = (d1, d2 + gainDelta err g.g2) := by
  simp [mixBranch, nearFull_iff, aboveMargin_iff, he, he.not_gt, h1.not_gt, h2]

theorem mixBranch_of_low (he : err < 0) (h1 : d1 ≤ 63536) (h2 : d2 ≤ 2000) :
    mixBranch err g d1 d2 = (d1 - gainDelta err g.g1, d2) := by
  simp [mixBranch, nearFull_iff, aboveMargin_iff, he, he.not_gt, h1.not_gt, h2.not_gt]

theorem mixBranch_of_high (he : 0 < err) (h1 : 2000 ≤ d1) : mixBranch err g d1 d2 = (d1 - gainDelta err g.g1, d2) := by
  simp [mixBranch, nearZero_iff, he.not_gt, h1.not_gt]

theorem mixBranch_of_zero : mixBranch 0 g d1 d2 = (d1, d2) := by
  simp [mixBranch, gainDelta]

end Rows

theorem mixRow_mix (err : Int) (g : GainPair) (d1 d2 : Int) : MixRow err g d1 d2 (mix err g d1 d2) := by
  unfold MixRow mix
  simp only [← gainDelta_eq_fdiv]
  refine ⟨fun he h1 h2 => ?_, fun he h1 h2 => ?_, fun he h1 => ?_, fun he h1 h2 => ?_, fun he h1 h2 => ?_, fun he h1 => ?_,
    fun he => ?_⟩
  · rw [mixBranch_of_bothNearFull g he h1 h2]
    rfl
  · rw [mixBranch_of_nearFull g he h1 h2, invariantStep_eq_min]
  · rw [mixBranch_of_nearZero g he h1, invariantStep_eq_min]
  · rw [mixBranch_of_aboveMargin g he h1 h2, invariantStep_eq_min]
  · rw [mixBranch_of_low g he h1 h2, invariantStep_eq_min]
  · rw [mixBranch_of_high g he h1, invariantStep_eq_min]
  · rw [he, mixBranch_of_zero, invariantStep_eq_min]

theorem toNat_clampDuty_eq_max_min (d : Int) : ((clampDuty d).toNat : Int) = max 0 (min d 0xFFFF) := by
  rw [toNat_clampDuty]
  omega

/-- Settles O37: the rows one by one, and the clamp on each of the two. -/
theorem mixFollowsTheBranchTable : Obligations.MixFollowsTheBranchTable :=
  fun err g d1 d2 => ⟨mixRow_mix err g d1 d2, toNat_clampDuty_eq_max_min _, toNat_clampDuty_eq_max_min _⟩

end Sys2Proof.Machine

namespace Sys2Proof.Machine

/-!
One FEEDBACK in the words of the statements (R132 to R139). What it computes is `regulate`, which is FeedbackWorking's rows; what it
pushes is a list of compare values, checked and emitted one by one until the first that overflows.
-/

/-! ### The working duties -/

theorem regulate_eq_none_iff (ch : Chan) : regulate ch = none ↔ idleMode ch.mode := by
  unfold regulate idleMode
  cases ch.mode with
  | disabled | constantDuty | maxPower => simp
  | voltageFeedback | currentFeedback =>
    dsimp only
    split <;> simp

theorem limitTrips_iff (sense limit : Codepoint) : limitTrips sense limit = true ↔ limit.toNat < sense.toNat := decide_eq_true_iff

theorem feedbackWorking_of_regulate {ch : Chan} {w : Int × Int} (h : regulate ch = some w) : FeedbackWorking ch w := by
  unfold regulate at h
  cases hm : ch.mode with
  | disabled | constantDuty | maxPower => simp [hm] at h
  | voltageFeedback =>
    simp only [hm] at h
    split at h <;> cases h
    next ht => exact .inl ⟨hm, (limitTrips_iff ..).mp ht, rfl⟩
    next ht => exact .inr (.inr (.inl ⟨hm, not_lt.mp (mt (limitTrips_iff ..).mpr ht), mixRow_mix ..⟩))
  | currentFeedback =>
    simp only [hm] at h
    split at h <;> cases h
    next ht => exact .inr (.inl ⟨hm, (limitTrips_iff ..).mp ht, rfl⟩)
    next ht => exact .inr (.inr (.inr ⟨hm, not_lt.mp (mt (limitTrips_iff ..).mpr ht), mixRow_mix ..⟩))

theorem clamped_eq_clampDuty (d : Int) : clamped d = clampDuty d := by
  apply BitVec.eq_of_toNat_eq
  rw [toNat_clampDuty, clamped, BitVec.toNat_ofNat]
  omega

theorem withTick_eq_modChan_setDuties (c : Channel) (w : Int × Int) (s : State) :
    withTick c w s = modChan c (Chan.setDuties (clampDuty w.1) (clampDuty w.2)) s := by
  simp only [withTick, clamped_eq_clampDuty]
  rfl

/-! ### The compare values -/

/-- The compare values pushed one by one: each is checked, then emitted, and the first that overflows raises Fatal (R171, R172). -/
def pushCompares (c : Channel) : List Compare → State → Flow
  | [], s => .on s
  | x :: xs, s =>
    if tickOverflows x.count then .ended (raiseFatal c x.timer x.unit x.count s)
    else pushCompares c xs (emit (compareOp x) s)

theorem setDutyPwm_eq_pushCompares (c : Channel) (t : Timer) (u : OcUnit) (p d : Word) (s : State) :
    setDutyPwm c t u p d s = pushCompares c [⟨t, u, ticks d p⟩] s := rfl

theorem pushCompares_append (c : Channel) (xs ys : List Compare) (s : State) :
    pushCompares c (xs ++ ys) s = (pushCompares c xs s).andThen (pushCompares c ys) := by
  induction xs generalizing s with
  | nil => rfl
  | cons x xs ih =>
    simp only [List.cons_append, pushCompares]
    split
    · rfl
    · exact ih _

/-- UPDATE_DUTY(c) pushes its compare values in order (R224, R228, R229). -/
theorem updateDuty_eq_pushCompares (c : Channel) (s : State) : updateDuty c s = pushCompares c (comparesOf c s) s := by
  cases c with
  | ch1 =>
    have hboth := pushCompares_append .ch1 [⟨.ta, .ua, ticks s.ch1.duty1 s.ch1.period⟩]
      [⟨.tb, .ub, ticks s.ch1.duty2 s.ch1.period⟩] s
    exact hboth.symm
  | ch2 =>
    simp only [comparesOf, ← unitOf_eq_ite]
    exact setDutyPwm_eq_pushCompares ..

/-- All of the compare values fit and are out, or those before the first that does not fit are. -/
theorem pushCompares_cases (c : Channel) (xs : List Compare) (s : State) :
    ((∀ x ∈ xs, x.count ≤ 0xFFFF) ∧ pushCompares c xs s = .on (afterOps (xs.map compareOp) s)) ∨
      ∃ before x after, xs = before ++ x :: after ∧ (∀ y ∈ before, y.count ≤ 0xFFFF) ∧ 0xFFFF < x.count ∧
        pushCompares c xs s = .ended (haltedBy c x.timer x.unit x.count (afterOps (before.map compareOp) s)) := by
  induction xs generalizing s with
  | nil => exact .inl ⟨nofun, by simp [pushCompares, afterOps]⟩
  | cons x xs ih =>
    by_cases hx : 0xFFFF < x.count
    · refine .inr ⟨[], x, xs, rfl, nofun, hx, ?_⟩
      rw [pushCompares, if_pos ((tickOverflows_iff _).mpr hx)]
      simp [raiseFatal, haltedBy, afterOps]
    have hx : x.count ≤ 0xFFFF := not_lt.mp hx
    rw [pushCompares, if_neg (not_tickOverflows hx)]
    rcases ih (emit (compareOp x) s) with ⟨hxs, e⟩ | ⟨before, y, after, rfl, hb, hy, e⟩
    · exact .inl ⟨List.forall_mem_cons.mpr ⟨hx, hxs⟩, e.trans (congrArg Flow.on (afterOps_afterOps [compareOp x] _ s))⟩
    · refine .inr ⟨x :: before, y, after, rfl, List.forall_mem_cons.mpr ⟨hx, hb⟩, hy, e.trans ?_⟩
      rw [List.map_cons, ← List.singleton_append, ← afterOps_afterOps]
      rfl

/-! ### FEEDBACK -/

theorem feedback_of_idleMode {c : Channel} {s : State} (h : idleMode (s.chan c).mode) : feedback c s = .on s := by
  rw [feedback, (regulate_eq_none_iff _).mpr h]

/-- FEEDBACK(c) goes on as a tick, or ends as a fatal one. -/
theorem feedback_ends (c : Channel) (s : State) :
    (∃ t, feedback c s = .on t ∧ FeedbackTick c s t) ∨ ∃ t, feedback c s = .ended t ∧ FeedbackFatal c s t := by
  rcases feedback_cases c s with ⟨hr, e⟩ | ⟨w, hr, e⟩
  · exact .inl ⟨s, e, .inl ⟨(regulate_eq_none_iff _).mp hr, rfl⟩⟩
  have hw := feedbackWorking_of_regulate hr
  rw [← withTick_eq_modChan_setDuties, updateDuty_eq_pushCompares] at e
  rcases pushCompares_cases c (comparesOf c (withTick c w s)) (withTick c w s) with ⟨hfit, e'⟩ | ⟨before, x, after, hxs, hb, hx, e'⟩
  · exact .inl ⟨_, e.trans e', .inr ⟨w, hw, hfit, rfl⟩⟩
  · exact .inr ⟨_, e.trans e', w, hw, before, x, after, hxs, hb, hx, rfl⟩

/-! ### SAMPLE -/

theorem exec_sample (v1 i1 v2 i2 : Codepoint) (s : State) :
    exec (.sample v1 i1 v2 i2) s =
      .next ((feedback .ch1 (withSenses v1 i1 v2 i2 s)).andThen (feedback .ch2)).state := rfl

/-- SAMPLE ends with channel 1's FEEDBACK where that is fatal, and with channel 2's otherwise (R130). -/
theorem exec_sample_cases (v1 i1 v2 i2 : Codepoint) (s : State) :
    (∃ t, FeedbackFatal .ch1 (withSenses v1 i1 v2 i2 s) t ∧ feedback .ch1 (withSenses v1 i1 v2 i2 s) = .ended t ∧
        exec (.sample v1 i1 v2 i2) s = .next t) ∨
      ∃ m, FeedbackTick .ch1 (withSenses v1 i1 v2 i2 s) m ∧ feedback .ch1 (withSenses v1 i1 v2 i2 s) = .on m ∧
        exec (.sample v1 i1 v2 i2) s = .next (feedback .ch2 m).state := by
  rw [exec_sample]
  rcases feedback_ends .ch1 (withSenses v1 i1 v2 i2 s) with ⟨m, e, hm⟩ | ⟨t, e, ht⟩
  · exact .inr ⟨m, hm, e, by rw [e, Flow.on_andThen]⟩
  · exact .inl ⟨t, ht, e, by rw [e, Flow.ended_andThen, Flow.state_ended]⟩

/-- What FEEDBACK leaves is a tick or a fatal one. -/
theorem feedback_state (c : Channel) (s : State) :
    FeedbackFatal c s (feedback c s).state ∨ FeedbackTick c s (feedback c s).state := by
  rcases feedback_ends c s with ⟨t, e, ht⟩ | ⟨t, e, ht⟩ <;> rw [e]
  · exact .inr ht
  · exact .inl ht

/-- Settles O35: channel 1's FEEDBACK, then, unless it was fatal, channel 2's. -/
theorem sampleRunsBothFeedbackTicksInOrder : Obligations.SampleRunsBothFeedbackTicksInOrder := by
  intro v1 i1 v2 i2 s
  rcases exec_sample_cases v1 i1 v2 i2 s with ⟨t, ht, _, e⟩ | ⟨m, hm, _, e⟩
  · exact ⟨t, e, .inl ht⟩
  · exact ⟨_, e, .inr ⟨m, hm, feedback_state .ch2 m⟩⟩

/-- Settles O34: in an idle mode FEEDBACK does nothing, so only the senses are written. -/
theorem sampleInIdleModesOnlyWritesSenses : Obligations.SampleInIdleModesOnlyWritesSenses := by
  intro v1 i1 v2 i2 s h1 h2
  have hfirst : feedback .ch1 (withSenses v1 i1 v2 i2 s) = .on (withSenses v1 i1 v2 i2 s) := feedback_of_idleMode h1
  have hsecond : feedback .ch2 (withSenses v1 i1 v2 i2 s) = .on (withSenses v1 i1 v2 i2 s) := feedback_of_idleMode h2
  rw [exec_sample, hfirst, Flow.on_andThen, hsecond, Flow.state_on]

end Sys2Proof.Machine

namespace Sys2Proof.Machine

/-!
What SAMPLE does to the control state, the outputs and the duties, read off its two ticks (R78, R130, R131, R147, R148, R310).
-/

/-! ### One tick -/

/-- How many outputs a channel's variant drives (R224, R228). -/
def outputCount : Channel → Nat
  | .ch1 => 2
  | .ch2 => 1

theorem length_comparesOf (c : Channel) (s : State) : (comparesOf c s).length = outputCount c := by
  cases c <;> rfl

theorem onlyCompares_map_compareOp {n : Nat} {xs : List Compare} (h : xs.length ≤ n) : OnlyCompares n (xs.map compareOp) := by
  refine ⟨by simpa using h, fun op hop => ?_⟩
  obtain ⟨x, _, rfl⟩ := List.mem_map.mp hop
  exact ⟨_, _, _, rfl⟩

/-- From `s` to `t` at most `n` operations more, every one a SET_COMPARE. -/
abbrev AddsCompares (n : Nat) (s t : State) : Prop :=
  ∃ ops, t.driverOps = s.driverOps ++ ops ∧ OnlyCompares n ops

theorem AddsCompares.mono {n n' : Nat} {s t : State} (h : AddsCompares n s t) (hn : n ≤ n') : AddsCompares n' s t := by
  obtain ⟨ops, e, hlen, hall⟩ := h
  exact ⟨ops, e, hlen.trans hn, hall⟩

theorem AddsCompares.trans {n m : Nat} {s t u : State} (h : AddsCompares n s t) (h' : AddsCompares m t u) :
    AddsCompares (n + m) s u := by
  obtain ⟨ops, e, hlen, hall⟩ := h
  obtain ⟨ops', e', hlen', hall'⟩ := h'
  refine ⟨ops ++ ops', by rw [e', e, List.append_assoc], ?_, fun op hop => ?_⟩
  · rw [List.length_append]
    exact Nat.add_le_add hlen hlen'
  · exact (List.mem_append.mp hop).elim (hall op) (hall' op)

theorem addsCompares_afterOps_withTick {n : Nat} {xs : List Compare} (h : xs.length ≤ n) (c : Channel) (w : Int × Int) (s : State) :
    AddsCompares n s (afterOps (xs.map compareOp) (withTick c w s)) :=
  ⟨xs.map compareOp, by simp [afterOps, withTick], onlyCompares_map_compareOp h⟩

theorem FeedbackTick.addsCompares {c : Channel} {s t : State} (h : FeedbackTick c s t) : AddsCompares (outputCount c) s t := by
  rcases h with ⟨_, rfl⟩ | ⟨w, _, _, rfl⟩
  · exact ⟨[], (List.append_nil _).symm, Nat.zero_le _, nofun⟩
  · exact addsCompares_afterOps_withTick (length_comparesOf ..).le c w s

theorem FeedbackFatal.addsCompares {c : Channel} {s t : State} (h : FeedbackFatal c s t) : AddsCompares (outputCount c) s t := by
  obtain ⟨w, _, before, x, after, hxs, _, _, rfl⟩ := h
  refine addsCompares_afterOps_withTick ?_ c w s
  rw [← length_comparesOf c (withTick c w s), hxs, List.length_append]
  exact Nat.le_add_right ..

theorem FeedbackTick.halted_eq {c : Channel} {s t : State} (h : FeedbackTick c s t) : t.halted = s.halted := by
  rcases h with ⟨_, rfl⟩ | ⟨w, _, _, rfl⟩
  · rfl
  · exact modChan_halted ..

theorem FeedbackTick.held_eq {c : Channel} {s t : State} (h : FeedbackTick c s t) : t.held = s.held := by
  rcases h with ⟨_, rfl⟩ | ⟨w, _, _, rfl⟩
  · rfl
  · exact modChan_held ..

/-- A fatal tick halts, abandons the held command, and names its channel (R310, R311). -/
theorem FeedbackFatal.control {c : Channel} {s t : State} (h : FeedbackFatal c s t) :
    t.halted = true ∧ t.held = none ∧ t.fault.channel = some c := by
  obtain ⟨_, _, _, _, _, _, _, _, rfl⟩ := h
  exact ⟨rfl, rfl, rfl⟩

/-! ### The outputs of a SAMPLE -/

/-- Settles O39: two compare values and one more, and a held command is lost only to a fatal tick. -/
theorem sampleIsBoundedAndSilent : Obligations.SampleIsBoundedAndSilent := by
  intro v1 i1 v2 i2 s t h
  refine ⟨(silent_execSample h).responses, ?_⟩
  obtain ⟨u, hu, hends⟩ := sampleRunsBothFeedbackTicksInOrder v1 i1 v2 i2 s
  cases hu.symm.trans h
  rcases hends with hfatal | ⟨m, htick, hfatal | htick'⟩
  · obtain ⟨hhalt, hheld, _⟩ := hfatal.control
    exact ⟨.inr ⟨hhalt, hheld⟩, hfatal.addsCompares.mono (by decide)⟩
  · obtain ⟨hhalt, hheld, _⟩ := hfatal.control
    exact ⟨.inr ⟨hhalt, hheld⟩, htick.addsCompares.trans hfatal.addsCompares⟩
  · exact ⟨.inl (htick'.held_eq.trans htick.held_eq), htick.addsCompares.trans htick'.addsCompares⟩

/-! ### The duties after a SAMPLE -/

theorem not_idleMode {m : Mode} (h : m = .voltageFeedback ∨ m = .currentFeedback) : ¬ idleMode m := by
  rcases h with rfl | rfl <;> simp [idleMode]

/-- FEEDBACK leaves the other channel alone. -/
theorem chan_feedback_other (c : Channel) (s : State) :
    (feedback c s).state.chan (otherChannel c) = s.chan (otherChannel c) := by
  obtain ⟨_, ho, _⟩ := (outside_eq_iff ..).mp (outside_feedback c s)
  exact ho

theorem ch2_feedback_ch1 (s : State) : (feedback .ch1 s).state.ch2 = s.ch2 := chan_feedback_other .ch1 s

/-- Channel 1's registers are those its own FEEDBACK leaves, whether or not channel 2's runs. -/
theorem ch1_feedback_andThen (s : State) :
    ((feedback .ch1 s).andThen (feedback .ch2)).state.ch1 = (feedback .ch1 s).state.ch1 := by
  cases feedback .ch1 s with
  | on m => exact chan_feedback_other .ch2 m
  | ended t => rfl

/-- In a feedback mode, FEEDBACK(c) leaves ordered and clamped duties, whether or not it raises Fatal (R147, R148). -/
theorem duties_feedback {c : Channel} {s : State} (hm : ¬ idleMode (s.chan c).mode)
    (ho : (s.chan c).duty2.toNat ≤ (s.chan c).duty1.toNat) :
    ((feedback c s).state.chan c).duty2.toNat ≤ ((feedback c s).state.chan c).duty1.toNat ∧
      ((feedback c s).state.chan c).duty1.toNat ≤ 0xFFFF := by
  rcases feedback_cases c s with ⟨hr, _⟩ | ⟨w, hr, e⟩
  · exact absurd ((regulate_eq_none_iff _).mp hr) hm
  have hord : w.2 ≤ w.1 := regulate_ordered _ w hr ho
  rw [e, chan_updateDuty, modChan_chan_same, Chan.setDuties_duty1, Chan.setDuties_duty2, toNat_clampDuty, toNat_clampDuty]
  omega

/-- Settles O38: channel 1's FEEDBACK always runs; channel 2's runs on the duties the SAMPLE found, unless channel 1's was fatal. -/
theorem feedbackKeepsDuty2BelowDuty1 : Obligations.FeedbackKeepsDuty2BelowDuty1 := by
  intro c v1 i1 v2 i2 s hrun hmode hord
  have hidle := not_idleMode hmode
  cases c with
  | ch1 =>
    refine ⟨_, exec_sample v1 i1 v2 i2 s, fun _ => ?_, nofun⟩
    rw [chan_ch1, ch1_feedback_andThen]
    exact duties_feedback (c := .ch1) (s := withSenses v1 i1 v2 i2 s) hidle hord
  | ch2 =>
    have hch2 := ch2_feedback_ch1 (withSenses v1 i1 v2 i2 s)
    rcases exec_sample_cases v1 i1 v2 i2 s with ⟨t, hfatal, e, hexec⟩ | ⟨m, htick, e, hexec⟩
    · rw [e, Flow.state_ended] at hch2
      obtain ⟨hhalt, _, hchan⟩ := hfatal.control
      exact ⟨t, hexec, fun hran => absurd ⟨rfl, hhalt, hchan⟩ hran, fun _ => by simp [hch2, withSenses]⟩
    · rw [e, Flow.state_on] at hch2
      have hduties := duties_feedback (c := .ch2) (s := m) (by rwa [chan_ch2, hch2]) (by rwa [chan_ch2, hch2])
      refine ⟨_, hexec, fun _ => hduties, fun ⟨_, hhalt, hchan⟩ => ?_⟩
      rcases feedback_state .ch2 m with hfatal | htick'
      · obtain ⟨_, _, hchan2⟩ := hfatal.control
        cases hchan2.symm.trans hchan
      · have hrunning : (feedback .ch2 m).state.halted = false := (htick'.halted_eq.trans htick.halted_eq).trans hrun
        cases hrunning.symm.trans hhalt

end Sys2Proof.Machine

namespace Sys2Proof.Machine

/-!
Which duties and periods overflow a tick count (R170, R172, R349): those whose product reaches 2^32.
-/

theorem tickOverflows_ticks_iff (d p : Word) : tickOverflows (ticks d p) = true ↔ 2 ^ 32 ≤ d.toNat * p.toNat := by
  rw [tickOverflows_iff, ticks]
  omega

/-- Settles O45: each boundary is the product d * P against 2^32. -/
theorem tickOverflowBoundaries : Obligations.TickOverflowBoundaries := by
  intro d p
  rw [← Bool.not_eq_true]
  simp only [tickOverflows_ticks_iff]
  refine ⟨fun hd hp => ?_, fun hd => ?_, fun hd => ?_, fun hp => ?_⟩
  · have hprod : d.toNat * p.toNat ≤ 0xFFFF * 0x10001 := Nat.mul_le_mul hd hp
    omega
  · rw [hd]
    omega
  · rw [hd]
    omega
  · rw [Nat.div_lt_iff_lt_mul hp]
    omega

end Sys2Proof.Machine

namespace Sys2Proof.Machine

/-!
The polarities are arguments of CFG_OUTPUT and nothing else (R174). Erasing them, from the parameters and from what has been emitted,
commutes with every operation: a CFG_OUTPUT emitted from an erased state carries the erased polarity. So it commutes with every
transaction and every step.
-/

/-- A procedure's end with its state changed. -/
def Flow.mapState (f : State → State) : Flow → Flow
  | .on s => .on (f s)
  | .ended s => .ended (f s)

/-- CONFIGURE's end with its state changed. -/
def Configured.mapState (f : State → State) : Configured → Configured
  | .ok s => .ok (f s)
  | .fail s => .fail (f s)
  | .raised s => .raised (f s)

@[simp] theorem Flow.mapState_state (f : State → State) (x : Flow) : (x.mapState f).state = f x.state := by
  cases x <;> rfl

/-! ### What erasing leaves -/

section Fields

variable (s : State)

@[simp] theorem erasePolarity_ch1 : (erasePolarity s).ch1 = s.ch1 := rfl
@[simp] theorem erasePolarity_ch2 : (erasePolarity s).ch2 = s.ch2 := rfl
@[simp] theorem erasePolarity_chan (c : Channel) : (erasePolarity s).chan c = s.chan c := by cases c <;> rfl
@[simp] theorem erasePolarity_source : (erasePolarity s).source = s.source := rfl
@[simp] theorem erasePolarity_halted : (erasePolarity s).halted = s.halted := rfl
@[simp] theorem erasePolarity_held : (erasePolarity s).held = s.held := rfl
@[simp] theorem erasePolarity_acks : (erasePolarity s).acks = s.acks := rfl
@[simp] theorem erasePolarity_driverOps : (erasePolarity s).driverOps = s.driverOps.map withoutPolarity := rfl
@[simp] theorem erasePolarity_limitSelect : (erasePolarity s).params.limitSelect = s.params.limitSelect := rfl

end Fields

@[simp] theorem withoutPolarity_withoutPolarity (op : DriverOp) : withoutPolarity (withoutPolarity op) = withoutPolarity op := by
  cases op <;> rfl

@[simp] theorem drawsAck_withoutPolarity (op : DriverOp) : drawsAck (withoutPolarity op) = drawsAck op := by
  cases op <;> rfl

theorem withoutPolarity_of_not_drawsAck {op : DriverOp} (h : drawsAck op = false) : withoutPolarity op = op := by
  cases op with
  | cfgOutput => cases h
  | _ => rfl

@[simp] theorem erasePolarity_erasePolarity (s : State) : erasePolarity (erasePolarity s) = erasePolarity s := by
  simp [erasePolarity]

/-! ### Shared operations -/

section Operations

variable (s : State)

@[simp] theorem modChan_erasePolarity (c : Channel) (f : Chan → Chan) :
    modChan c f (erasePolarity s) = erasePolarity (modChan c f s) := by
  cases c <;> rfl

@[simp] theorem respond_erasePolarity (st : Status) (d : Word) :
    respond st d (erasePolarity s) = erasePolarity (respond st d s) := rfl

@[simp] theorem hold_erasePolarity (x : ReadyWait) (k : Resumption) :
    hold x k (erasePolarity s) = erasePolarity (hold x k s) := rfl

@[simp] theorem setInbox_erasePolarity (l : List Input) : setInbox l (erasePolarity s) = erasePolarity (setInbox l s) := rfl

@[simp] theorem raiseFatal_erasePolarity (c : Channel) (t : Timer) (u : OcUnit) (n : Nat) :
    raiseFatal c t u n (erasePolarity s) = erasePolarity (raiseFatal c t u n s) := rfl

@[simp] theorem resetEntry_erasePolarity : resetEntry (erasePolarity s) = erasePolarity (resetEntry s) := rfl

theorem emitAll_map_withoutPolarity (ops : List DriverOp) :
    emitAll (ops.map withoutPolarity) (erasePolarity s) = erasePolarity (emitAll ops s) := by
  simp [emitAll, erasePolarity]

/-- Operations without CFG_OUTPUT are emitted alike. -/
theorem emitAll_erasePolarity {ops : List DriverOp} (h : ∀ op ∈ ops, drawsAck op = false) :
    emitAll ops (erasePolarity s) = erasePolarity (emitAll ops s) := by
  have hmap : ops.map withoutPolarity = ops :=
    (List.map_congr_left fun op hop => withoutPolarity_of_not_drawsAck (h op hop)).trans (List.map_id' ops)
  rw [← emitAll_map_withoutPolarity, hmap]

@[simp] theorem drawAck_erasePolarity : drawAck (erasePolarity s) = ((drawAck s).1, erasePolarity (drawAck s).2) := by
  unfold drawAck
  rw [erasePolarity_acks]
  cases s.acks <;> rfl

@[simp] theorem nextInput_erasePolarity : nextInput (erasePolarity s) = nextInput s := rfl

end Operations

theorem drawAcks_erasePolarity (n : Nat) (s : State) : drawAcks n (erasePolarity s) = erasePolarity (drawAcks n s) := by
  simp only [drawAcks_eq]
  rfl

/-- A reset during a transaction lets the same operations out, with the same acknowledges. -/
theorem cutShort_erasePolarity (n : Nat) (s t : State) :
    cutShort n (erasePolarity s) (erasePolarity t) = erasePolarity (cutShort n s t) := by
  have hcount : drawsAck ∘ withoutPolarity = drawsAck := funext drawsAck_withoutPolarity
  simp only [cutShort, erasePolarity_driverOps, List.length_map, ← List.map_drop, ← List.map_take, List.countP_map, hcount,
    resetEntry_erasePolarity, emitAll_map_withoutPolarity, drawAcks_erasePolarity]

/-! ### The synthesizer -/

/-- The one operation a polarity goes into: from an erased state it carries the erased polarity. -/
theorem emit_cfgOutput_erasePolarity (t : Timer) (u : OcUnit) (p : Word) (pol : Polarity) (n : BitVec 16) (s : State) :
    emit (.cfgOutput t u p .risingFirst n) (erasePolarity s) = erasePolarity (emit (.cfgOutput t u p pol n) s) :=
  emitAll_map_withoutPolarity s [.cfgOutput t u p pol n]

theorem configureSingle_erasePolarity (t : Timer) (u : OcUnit) (p : Word) (pol : Polarity) (n : Nat) (s : State) :
    configureSingle t u p .risingFirst n (erasePolarity s) =
      ((configureSingle t u p pol n s).1, erasePolarity (configureSingle t u p pol n s).2) := by
  have hstart (r : State) : emitAll [.enableOutput t u, .start t] (erasePolarity r) =
      erasePolarity (emitAll [.enableOutput t u, .start t] r) := emitAll_erasePolarity r (by simp [drawsAck])
  simp only [configureSingle, emit_cfgOutput_erasePolarity t u p pol, drawAck_erasePolarity, hstart]
  split <;> rfl

theorem configureDual_erasePolarity (tA : Timer) (uA : OcUnit) (tB : Timer) (uB : OcUnit) (p : Word) (na nb : Nat)
    (phase : Word) (polA polB : Polarity) (s : State) :
    configureDual tA uA tB uB p na nb phase .risingFirst .risingFirst (erasePolarity s) =
      ((configureDual tA uA tB uB p na nb phase polA polB s).1,
        erasePolarity (configureDual tA uA tB uB p na nb phase polA polB s).2) := by
  have hlink (r : State) : emitAll [.setMasterMode tA, .setSlaveTrigger tB tA, .primePeriod tA (p - phase) p] (erasePolarity r) =
      erasePolarity (emitAll [.setMasterMode tA, .setSlaveTrigger tB tA, .primePeriod tA (p - phase) p] r) :=
    emitAll_erasePolarity r (by simp [drawsAck])
  simp only [configureDual, configureSingle_erasePolarity tA uA p polA, configureSingle_erasePolarity tB uB p polB, hlink]
  split
  · rfl
  split
  · split <;> rfl
  · rfl

theorem configuredOf_erasePolarity (r : Bool × State) :
    configuredOf (r.1, erasePolarity r.2) = (configuredOf r).mapState erasePolarity := by
  obtain ⟨_ | _, _⟩ := r <;> rfl

@[simp] theorem configure_erasePolarity (c : Channel) (s : State) :
    configure c (erasePolarity s) = (configure c s).mapState erasePolarity := by
  cases c with
  | ch1 =>
    simp only [configure, variantOf, configure1, apply_ite (Configured.mapState erasePolarity), ← configuredOf_erasePolarity,
      ← configureDual_erasePolarity]
    rfl
  | ch2 =>
    simp only [configure, variantOf, configure2, apply_ite (Configured.mapState erasePolarity), ← configuredOf_erasePolarity,
      ← configureSingle_erasePolarity]
    rfl

theorem setDutyPwm_erasePolarity (c : Channel) (t : Timer) (u : OcUnit) (p d : Word) (s : State) :
    setDutyPwm c t u p d (erasePolarity s) = (setDutyPwm c t u p d s).mapState erasePolarity := by
  unfold setDutyPwm
  split
  · rfl
  · exact congrArg Flow.on (emitAll_erasePolarity s (by simp [drawsAck]))

/-- Two procedures that each commute with a change of state do so one after the other. -/
theorem Flow.mapState_andThen {f : State → State} {g : State → Flow} (hg : ∀ s, g (f s) = (g s).mapState f) (x : Flow) :
    (x.mapState f).andThen g = (x.andThen g).mapState f := by
  cases x with
  | on s => exact hg s
  | ended s => rfl

@[simp] theorem updateDuty_erasePolarity (c : Channel) (s : State) :
    updateDuty c (erasePolarity s) = (updateDuty c s).mapState erasePolarity := by
  cases c with
  | ch1 =>
    simp only [updateDuty, variantOf, erasePolarity_ch1, setDutyPwm_erasePolarity]
    exact Flow.mapState_andThen (setDutyPwm_erasePolarity _ _ _ _ _) _
  | ch2 => exact setDutyPwm_erasePolarity ..

/-! ### The parts of a transaction -/

@[simp] theorem feedback_erasePolarity (c : Channel) (s : State) :
    feedback c (erasePolarity s) = (feedback c s).mapState erasePolarity := by
  unfold feedback
  rw [erasePolarity_chan]
  cases regulate (s.chan c) with
  | none => rfl
  | some w => simp

theorem enableOps_drawsAck (c : Channel) : ∀ op ∈ enableOps c, drawsAck op = false := by
  cases c <;> simp [enableOps, drawsAck]

theorem disableOps_drawsAck (src : Source) (c : Channel) : ∀ op ∈ disableOps src c, drawsAck op = false := by
  cases c <;> simp [disableOps, drawsAck]

/-- ENABLE always holds, so what would follow at once plays no part. -/
theorem enable_erasePolarity (c : Channel) (k : Resumption) (rest : State → State) (s : State) :
    enable c k rest (erasePolarity s) = erasePolarity (enable c k rest s) := by
  have hops : ∀ op ∈ enableOps c ++ [.adcOscOn], drawsAck op = false :=
    List.forall_mem_append.mpr ⟨enableOps_drawsAck c, by simp [drawsAck]⟩
  simp only [enable_eq, modChan_erasePolarity, emitAll_erasePolarity _ hops, hold_erasePolarity]

@[simp] theorem disableAndRespond_erasePolarity (c : Channel) (st : Status) (s : State) :
    disableAndRespond c st (erasePolarity s) = erasePolarity (disableAndRespond c st s) := by
  cases h : (s.chan (otherChannel c)).active with
  | true =>
    have hops : ∀ op ∈ disableOps s.source c ++ [.adcOscOn], drawsAck op = false :=
      List.forall_mem_append.mpr ⟨disableOps_drawsAck s.source c, by simp [drawsAck]⟩
    rw [disableAndRespond_of_active c st s h, disableAndRespond_of_active c st _ ((erasePolarity_chan ..).symm ▸ h)]
    simp only [erasePolarity_source, modChan_erasePolarity, emitAll_erasePolarity _ hops, hold_erasePolarity]
  | false =>
    have hops : ∀ op ∈ disableOps s.source c ++ [.adcPowerOff, .clkOff .tt, .adcOscOff], drawsAck op = false :=
      List.forall_mem_append.mpr ⟨disableOps_drawsAck s.source c, by simp [drawsAck]⟩
    rw [disableAndRespond_of_inactive c st s h, disableAndRespond_of_inactive c st _ ((erasePolarity_chan ..).symm ▸ h)]
    simp only [erasePolarity_source, modChan_erasePolarity, emitAll_erasePolarity _ hops]
    rfl

@[simp] theorem configureAndSetMode_erasePolarity (c : Channel) (m : Mode) (s : State) :
    configureAndSetMode c m (erasePolarity s) = erasePolarity (configureAndSetMode c m s) := by
  unfold configureAndSetMode
  rw [configure_erasePolarity]
  cases configure c s <;> simp [Configured.mapState]

theorem recomputeAfterOsc_erasePolarity (k : Resumption) (s : State) :
    recomputeAfterOsc k (erasePolarity s) = erasePolarity (recomputeAfterOsc k s) :=
  congrArg (hold .adc k) (emitAll_erasePolarity s (by simp [drawsAck]))

theorem recomputeAfterAdc_erasePolarity (s : State) :
    recomputeAfterAdc (erasePolarity s) = erasePolarity (recomputeAfterAdc s) :=
  congrArg (fun r => { release r with adcOn := true }) (emitAll_erasePolarity s (by simp [drawsAck]))

theorem continueHeld_erasePolarity (k : Held) (s : State) :
    continueHeld k (erasePolarity s) = erasePolarity (continueHeld k s) := by
  obtain ⟨x, k⟩ := k
  cases x with
  | osc => exact recomputeAfterOsc_erasePolarity k s
  | adc =>
    simp only [continueHeld, recomputeAfterAdc_erasePolarity]
    cases k <;> simp [resume]

/-! ### Every instruction, every input, every step -/

theorem execSetMode_erasePolarity {c : Channel} {m : Mode} {s t : State} (h : execSetMode c m s = .next t) :
    execSetMode c m (erasePolarity s) = .next (erasePolarity t) := by
  have hmode : ((erasePolarity s).chan c).mode = (s.chan c).mode := by rw [erasePolarity_chan]
  cases h
  unfold execSetMode
  rw [hmode]
  congr 1
  split
  · rfl
  · exact disableAndRespond_erasePolarity ..
  all_goals
    split
    · exact enable_erasePolarity ..
    · exact configureAndSetMode_erasePolarity ..

theorem execSetDuty_erasePolarity {c : Channel} {d1 d2 : Word} {s t : State} (h : execSetDuty c d1 d2 s = .next t) :
    execSetDuty c d1 d2 (erasePolarity s) = .next (erasePolarity t) := by
  cases h
  simp only [execSetDuty, erasePolarity_chan, modChan_erasePolarity, configure_erasePolarity]
  congr 1
  split
  · rfl
  split
  · rfl
  split
  · rfl
  split
  · cases configure c (modChan c (Chan.setDuties d1 d2) s) <;> simp [Configured.mapState]
  · rfl

theorem execSample_erasePolarity {v1 i1 v2 i2 : Codepoint} {s t : State} (h : execSample v1 i1 v2 i2 s = .next t) :
    execSample v1 i1 v2 i2 (erasePolarity s) = .next (erasePolarity t) := by
  cases h
  simp [execSample, writeSenses, Flow.mapState_andThen (feedback_erasePolarity .ch2)]

/-- No instruction's meaning tells the polarities. -/
theorem exec_erasePolarity {i : Instr} {s t : State} (h : exec i s = .next t) :
    exec i (erasePolarity s) = .next (erasePolarity t) := by
  cases i with
  | setMode c m => exact execSetMode_erasePolarity h
  | setDuty c d1 d2 => exact execSetDuty_erasePolarity h
  | sample v1 i1 v2 i2 => exact execSample_erasePolarity h
  | setVsetpoint c v | setIsetpoint c v | setPeriod c p =>
    cases h
    simp only [exec, execSetVsetpoint, execSetIsetpoint, execSetPeriod, erasePolarity_chan, erasePolarity_limitSelect]
    split <;> simp
  | setCh2Source src =>
    cases h
    simp only [exec, execSetCh2Source, erasePolarity_ch2]
    split <;> rfl
  | getMode c | getDuty1 c | getDuty2 c | getVsetpoint c | getIsetpoint c | getVsense c | getIsense c | getPeriod c =>
    cases h
    cases c <;> rfl
  | reserved _ _ _ =>
    cases h
    rfl

theorem serveSample_erasePolarity {w : BitVec 64} {s t : State} (h : serveSample w s = .next t) :
    serveSample w (erasePolarity s) = .next (erasePolarity t) := by
  unfold serveSample at h ⊢
  rw [erasePolarity_halted]
  by_cases hhalted : s.halted = true
  · rw [if_pos hhalted] at h ⊢
    cases h
    rfl
  · rw [if_neg hhalted] at h ⊢
    exact exec_erasePolarity h

theorem serveReady_erasePolarity {x : ReadyWait} {s t : State} (h : serveReady x s = .next t) :
    serveReady x (erasePolarity s) = .next (erasePolarity t) := by
  unfold serveReady at h ⊢
  rw [erasePolarity_held, erasePolarity_halted]
  cases hk : s.held with
  | none =>
    rw [hk] at h
    cases h
    rfl
  | some k =>
    simp only [hk] at h ⊢
    by_cases hawaited : (decide (k.wait = x) && !s.halted) = true
    · rw [if_pos hawaited] at h ⊢
      cases h
      exact congrArg Host.Outcome.next (continueHeld_erasePolarity k s)
    · rw [if_neg hawaited] at h ⊢
      cases h
      rfl

theorem serveInput_erasePolarity {i : Input} {s t : State} (h : serveInput i s = .next t) :
    serveInput i (erasePolarity s) = .next (erasePolarity t) := by
  cases i with
  | command w => exact exec_erasePolarity h
  | sample w => exact serveSample_erasePolarity h
  | ready x => exact serveReady_erasePolarity h
  | reset | resetDuring n =>
    cases h
    rfl

theorem serveResetDuring_erasePolarity {n : Nat} {s t : State} (h : serveResetDuring n s = .next t) :
    serveResetDuring n (erasePolarity s) = .next (erasePolarity t) := by
  unfold serveResetDuring at h ⊢
  rw [nextInput_erasePolarity]
  cases hn : nextInput s with
  | none =>
    rw [hn] at h
    cases h
    rfl
  | some taken =>
    obtain ⟨i, rest⟩ := taken
    obtain ⟨u, hu⟩ := serveInput_next i (setInbox rest s)
    rw [hn] at h
    simp only [hu] at h
    cases h
    simp only [setInbox_erasePolarity, serveInput_erasePolarity hu, cutShort_erasePolarity]

theorem serve_erasePolarity {i : Input} {s t : State} (h : serve i s = .next t) :
    serve i (erasePolarity s) = .next (erasePolarity t) := by
  cases i with
  | resetDuring n => exact serveResetDuring_erasePolarity h
  | command _ | sample _ | ready _ | reset =>
    simp only [serve] at h ⊢
    exact serveInput_erasePolarity h

/-- A step of the erased state is the step with the polarities erased. -/
theorem step_erasePolarity {s t : State} (h : step s = .next t) : step (erasePolarity s) = .next (erasePolarity t) := by
  unfold step at h ⊢
  rw [nextInput_erasePolarity]
  cases hn : nextInput s with
  | none =>
    rw [hn] at h
    cases h
    rfl
  | some taken =>
    rw [hn] at h
    exact serve_erasePolarity h

/-- Settles O50: erasing the polarities commutes with the step, and erasing them twice is erasing them once. -/
theorem polarityOnlyShowsInCfgOutput : Obligations.PolarityOnlyShowsInCfgOutput :=
  fun _ t h => ⟨erasePolarity t, step_erasePolarity h, erasePolarity_erasePolarity t⟩

end Sys2Proof.Machine

namespace Sys2Proof.Machine

/-!
READY(OSC) for a held command (R204, R205): the first of the "on" branch's two waits ends, and the second begins with `adc_on` not yet
written (R209).
-/

/-- The "on" branch between its waits, in the statements' words (R206.2): one operation and the next hold, every register kept. -/
theorem continueHeld_osc (k : Resumption) (s : State) :
    continueHeld ⟨.osc, k⟩ s = { afterOps [.adcPowerOn] s with held := some ⟨.adc, k⟩ } := rfl

/-- Settles O31: the step takes the indication from behind the waiting commands and continues the held command to its second wait. -/
theorem readyOscPowersTheAdc : Obligations.ReadyOscPowersTheAdc := by
  intro s k before rest hr hk hbox hb
  calc step s
      = .next (continueHeld ⟨.osc, k⟩ (setInbox (before ++ rest) s)) := step_of_awaited_ready hr hk hbox hb
    _ = .next { afterOps [.adcPowerOn] s with inbox := before ++ rest, held := some ⟨.adc, k⟩ } := by
      rw [continueHeld_osc]
      rfl

end Sys2Proof.Machine

namespace Sys2Proof.Machine

/-!
SET_CH2_SOURCE (R230), a case per branch of its rule. Each says the whole next state, so that no driver operation is emitted stands in
the equation, and neither asks for channel 1's mode.
-/

/-- R230's accepting branch. The source may be the one already held. -/
theorem exec_setCh2Source_of_disabled (src : Source) {s : State} (h : s.ch2.mode = .disabled) :
    exec (.setCh2Source src) s = .next (respond .ok 0#32 { s with source := src }) := by
  simp only [exec, execSetCh2Source, h]

/-- R230's rejecting branch: every mode but Disabled, MaxPower too. -/
theorem exec_setCh2Source_of_not_disabled (src : Source) {s : State} (h : s.ch2.mode ≠ .disabled) :
    exec (.setCh2Source src) s = .next (respond .rejected 0#32 s) := by
  change execSetCh2Source src s = _
  unfold execSetCh2Source
  split
  case h_1 hmode => exact absurd hmode h
  case h_2 => rfl

/-- Settles O22: channel 2's mode decides between the two branches, and the response is all that either adds to its registers. -/
theorem setCh2SourceOnlyWhileDisabled : Obligations.SetCh2SourceOnlyWhileDisabled :=
  fun src _ => ⟨exec_setCh2Source_of_disabled src, exec_setCh2Source_of_not_disabled src⟩

end Sys2Proof.Machine

namespace Sys2Proof.Machine

/-!
The physical values of setpoints and senses (R253 to R261, R264). Both setpoint commands are the same store against a limit, written
once as `storeSetpoint`; the round trip is then the two unit conversions one after the other.
-/

/-! ### The unit conversions -/

/-- R254 loses nothing: with a gain of at least 1 the inverse conversion of a codepoint fits the data word. -/
theorem toNat_phys (r : Codepoint) {g : Word} (hg : 0 < g.toNat) : (phys r g).toNat = r.toNat * 65536 / g.toNat := by
  have hfits : r.toNat * 65536 / g.toNat < 2 ^ 32 := by
    rw [Nat.div_lt_iff_lt_mul hg]
    have := r.isLt
    omega
  exact (BitVec.toNat_ofNat ..).trans (Nat.mod_eq_of_lt hfits)

/-- Two floors one after the other: the first drops less than 65536 of `v * g`, the second less than `g` of what is left. -/
theorem conversion_bounds {v g r w : Nat} (hg : 0 < g) (hr : r = v * g / 65536) (hw : w = r * 65536 / g) :
    w ≤ v ∧ v - w ≤ (65536 + (g - 1)) / g := by
  have hraw : r * 65536 ≤ v * g ∧ v * g < r * 65536 + 65536 := by omega
  have hphys : w * g ≤ r * 65536 := hw ▸ Nat.div_mul_le_self ..
  have hphys_lt : r * 65536 < w * g + g := hw ▸ Nat.lt_div_mul_add hg
  refine ⟨Nat.le_of_mul_le_mul_right (hphys.trans hraw.1) hg, ?_⟩
  rw [Nat.le_div_iff_mul_le hg, Nat.sub_mul]
  omega

/-! ### Storing a setpoint -/

/-- What both setpoint commands do with a raw value: store it with `write`, or reject it above the limit (R256, R257). -/
def storeSetpoint (write : Codepoint → Chan → Chan) (limit : Codepoint) (c : Channel) (r : Nat) (s : State) : State :=
  if limit.toNat < r then respond .rejected 0#32 s else respond .ok 0#32 (modChan c (write (BitVec.ofNat 16 r)) s)

section
variable {write : Codepoint → Chan → Chan} {limit : Codepoint} {c : Channel} {r : Nat} {s : State}

theorem storeSetpoint_of_lt (h : limit.toNat < r) : storeSetpoint write limit c r s = respond .rejected 0#32 s :=
  if_pos h

/-- A raw value no limit is below is a codepoint, so it is stored as it is. -/
theorem storeSetpoint_of_le (h : r ≤ limit.toNat) :
    ∃ x : Codepoint, x.toNat = r ∧ storeSetpoint write limit c r s = respond .ok 0#32 (modChan c (write x) s) := by
  have hfits : r < 2 ^ 16 := h.trans_lt limit.isLt
  exact ⟨BitVec.ofNat 16 r, (BitVec.toNat_ofNat ..).trans (Nat.mod_eq_of_lt hfits), if_neg (Nat.not_lt.mpr h)⟩

/-- The limit decides between the two ends of a command that stores a setpoint (R255). -/
theorem stores_or_rejects {o : Host.Outcome State Fault Refusal} (ho : o = .next (storeSetpoint write limit c r s)) :
    (limit.toNat < r → o = .next (respond .rejected 0#32 s)) ∧
      (r ≤ limit.toNat → ∃ x : Codepoint, x.toNat = r ∧ o = .next (respond .ok 0#32 (modChan c (write x) s))) := by
  subst ho
  refine ⟨fun hlt => by rw [storeSetpoint_of_lt hlt], fun hle => ?_⟩
  obtain ⟨x, hx, e⟩ := storeSetpoint_of_le (write := write) (c := c) (s := s) hle
  exact ⟨x, hx, by rw [e]⟩

/-- An OK response tells that the raw value was stored. -/
theorem stored_of_ok {t : State}
    (h : (.next (storeSetpoint write limit c r s) : Host.Outcome State Fault Refusal) = .next t)
    (hok : t.responses = s.responses ++ [⟨.ok, 0#32⟩]) :
    ∃ x : Codepoint, x.toNat = r ∧ t = respond .ok 0#32 (modChan c (write x) s) := by
  cases h
  rcases Nat.lt_or_ge limit.toNat r with hlt | hle
  · simp [storeSetpoint_of_lt hlt] at hok
  · exact storeSetpoint_of_le hle

end

theorem exec_setVsetpoint (c : Channel) (v : Word) (s : State) :
    exec (.setVsetpoint c v) s = .next (storeSetpoint Chan.setVsetpoint (vsetpointLimit s.params.limitSelect (s.chan c)) c
      (raw v (s.chan c).vsenseGain) s) := rfl

theorem exec_setIsetpoint (c : Channel) (v : Word) (s : State) :
    exec (.setIsetpoint c v) s = .next (storeSetpoint Chan.setIsetpoint (isetpointLimit s.params.limitSelect (s.chan c)) c
      (raw v (s.chan c).isenseGain) s) := rfl

theorem vsetpointLimit_eq (sel : LimitSelect) (ch : Chan) :
    vsetpointLimit sel ch = if sel = .opposing then ch.ilimit else ch.vlimit := by
  cases sel <;> rfl

theorem isetpointLimit_eq (sel : LimitSelect) (ch : Chan) :
    isetpointLimit sel ch = if sel = .opposing then ch.vlimit else ch.ilimit := by
  cases sel <;> rfl

/-! ### Reading a value back -/

/-- The data of an OK response is the value a read answered. -/
theorem data_of_read {d w : Word} {t u : State} (h : (.next (respond .ok d t) : Host.Outcome State Fault Refusal) = .next u)
    (hw : u.responses = t.responses ++ [⟨.ok, w⟩]) : w = d := by
  cases h
  simpa [eq_comm] using hw

/-- R264 for a register that holds the raw value of `v`. -/
theorem phys_bounds_of_raw {x : Codepoint} {v g : Word} (hg : 0 < g.toNat) (hx : x.toNat = raw v g) :
    (phys x g).toNat ≤ v.toNat ∧ v.toNat - (phys x g).toNat ≤ (65536 + (g.toNat - 1)) / g.toNat :=
  conversion_bounds hg hx (toNat_phys x hg)

/-! ### The obligations -/

/-- Settles O17: each read answers the inverse conversion of its register, which fits because the gain is not 0. -/
theorem physicalReadsRespondWithTheInverseConversion : Obligations.PhysicalReadsRespondWithTheInverseConversion := by
  intro c s hv hi
  have hvpos : 0 < (s.chan c).vsenseGain.toNat := by bv_omega
  have hipos : 0 < (s.chan c).isenseGain.toNat := by bv_omega
  exact ⟨_, _, _, _, ⟨toNat_phys _ hvpos, rfl⟩, ⟨toNat_phys _ hipos, rfl⟩, ⟨toNat_phys _ hvpos, rfl⟩, ⟨toNat_phys _ hipos, rfl⟩⟩

/-- Settles O18: the store of a raw value, against the limit R255 selects. -/
theorem setVsetpointStoresOrRejects : Obligations.SetVsetpointStoresOrRejects := by
  intro c v s
  have hstore := exec_setVsetpoint c v s
  rw [vsetpointLimit_eq] at hstore
  exact stores_or_rejects hstore

/-- Settles O19: the same store, R255 selecting the limit the other way round. -/
theorem setIsetpointStoresOrRejects : Obligations.SetIsetpointStoresOrRejects := by
  intro c v s
  have hstore := exec_setIsetpoint c v s
  rw [isetpointLimit_eq] at hstore
  exact stores_or_rejects hstore

/-- Settles O20: OK tells that the raw value is in the register, and the read answers its inverse conversion by the same gain. -/
theorem setpointRoundTripStaysWithinOneCodepoint : Obligations.SetpointRoundTripStaysWithinOneCodepoint := by
  refine fun c v s t u w => ⟨?_, ?_⟩ <;> rintro g rfl hpos hset hok hget hw
  · obtain ⟨x, hx, rfl⟩ := stored_of_ok (write := Chan.setVsetpoint) hset hok
    have hread : w = phys x (s.chan c).vsenseGain := by simpa using data_of_read hget hw
    exact hread ▸ phys_bounds_of_raw hpos hx
  · obtain ⟨x, hx, rfl⟩ := stored_of_ok (write := Chan.setIsetpoint) hset hok
    have hread : w = phys x (s.chan c).isenseGain := by simpa using data_of_read hget hw
    exact hread ▸ phys_bounds_of_raw hpos hx

end Sys2Proof.Machine

namespace Sys2Proof.Machine

/-!
SET_PERIOD (R262) and SET_DUTY (R250, R302, R303), a case per branch of their rules, each with the whole next state.
-/

/-! ### SET_PERIOD -/

/-- R262's accepting branch, which does not look at the period. -/
theorem exec_setPeriod_of_disabled {c : Channel} (p : Word) {s : State} (h : (s.chan c).mode = .disabled) :
    exec (.setPeriod c p) s = .next (respond .ok 0#32 (modChan c (Chan.setPeriod p) s)) := by
  simp only [exec, execSetPeriod, h]

/-- R262's rejecting branch: every mode but Disabled, MaxPower too. -/
theorem exec_setPeriod_of_not_disabled {c : Channel} (p : Word) {s : State} (h : (s.chan c).mode ≠ .disabled) :
    exec (.setPeriod c p) s = .next (respond .rejected 0#32 s) := by
  change execSetPeriod c p s = _
  unfold execSetPeriod
  split
  case h_1 hmode => exact absurd hmode h
  case h_2 => rfl

/-- Settles O21: the channel's mode decides between the two branches. -/
theorem setPeriodOnlyWhileDisabled : Obligations.SetPeriodOnlyWhileDisabled :=
  fun _ p _ => ⟨exec_setPeriod_of_disabled p, exec_setPeriod_of_not_disabled p⟩

/-! ### SET_DUTY -/

/-- R250's three conditions, negated: the mode takes a duty, the duties are ordered, and neither exceeds 1.0. -/
abbrev DutyAccepted (m : Mode) (d1 d2 : Word) : Prop :=
  (m = .disabled ∨ m = .constantDuty) ∧ d2.toNat ≤ d1.toNat ∧ d1.toNat ≤ fullScale

theorem acceptsDuty_iff (m : Mode) : acceptsDuty m = true ↔ m = .disabled ∨ m = .constantDuty := by
  cases m <;> simp [acceptsDuty]

/-- The three checks share their outcome, so their order shows nowhere (R302). -/
theorem exec_setDuty_of_not_accepted {c : Channel} {d1 d2 : Word} {s : State} (h : ¬ DutyAccepted (s.chan c).mode d1 d2) :
    exec (.setDuty c d1 d2) s = .next (respond .rejected 0#32 s) := by
  rcases execSetDuty_cases c d1 d2 s with e | ⟨ho, hd, ⟨hm, _⟩ | ⟨hm, _⟩⟩
  · exact e
  · exact absurd ⟨.inl hm, ho, hd⟩ h
  · exact absurd ⟨.inr hm, ho, hd⟩ h

/-- Past the three checks the duties are stored, and ConstantDuty goes on to CONFIGURE (R250). -/
theorem exec_setDuty_of_accepted {c : Channel} {d1 d2 : Word} {s : State} (h : DutyAccepted (s.chan c).mode d1 d2) :
    exec (.setDuty c d1 d2) s = .next
      (if (s.chan c).mode = .disabled then respond .ok 0#32 (modChan c (Chan.setDuties d1 d2) s)
        else reconfigured c (modChan c (Chan.setDuties d1 d2) s)) := by
  obtain ⟨hm, ho, hd⟩ := h
  change execSetDuty c d1 d2 s = _
  unfold execSetDuty
  rw [if_neg (by simpa using (acceptsDuty_iff _).mpr hm), if_neg (Nat.not_lt.mpr ho), if_neg (Nat.not_lt.mpr hd)]
  simp only [modChan_chan_same, Chan.setDuties_mode]
  rcases hm with hm | hm <;> rw [hm] <;> rfl

/-- What follows SET_DUTY's CONFIGURE, in the statements' words (R303). -/
theorem reconfigured_eq_tornDown (c : Channel) (s : State) :
    reconfigured c s = match configure c s with
      | .ok t => afterResponse .ok 0#32 t
      | .fail t => tornDown c .configFault t
      | .raised t => t := by
  unfold reconfigured
  cases configure c s with
  | ok t | raised t => rfl
  | fail t => exact (tornDown_eq_disableAndRespond c .configFault t).symm

/-- Settles O23: each of the causes is one of R250's conditions failing. -/
theorem setDutyRejections : Obligations.SetDutyRejections := by
  intro c d1 d2 s h
  refine exec_setDuty_of_not_accepted ?_
  rintro ⟨hm, ho, hd⟩
  obtain ⟨hdis, hcon⟩ | hlt | hlt := h
  · exact hm.elim hdis hcon
  · exact absurd ho (Nat.not_le.mpr hlt)
  · exact absurd hd (Nat.not_le.mpr hlt)

/-- Settles O24: past the checks, Disabled only stores. -/
theorem setDutyStoresWhileDisabled : Obligations.SetDutyStoresWhileDisabled := by
  intro c d1 d2 s hm ho hd
  rw [exec_setDuty_of_accepted ⟨.inl hm, ho, hd⟩, if_pos hm]
  rfl

/-- Settles O25: past the checks, ConstantDuty stores and goes on to CONFIGURE, whose ends the statement writes out. -/
theorem setDutyReconfiguresInConstantDuty : Obligations.SetDutyReconfiguresInConstantDuty := by
  intro c d1 d2 s hm ho hd
  rw [exec_setDuty_of_accepted ⟨.inr hm, ho, hd⟩, if_neg (by simp [hm]), reconfigured_eq_tornDown]
  rfl

end Sys2Proof.Machine

namespace Sys2Proof.Machine

/-!
The halted state (R311) and fatal entry (R310). A halted CORE takes no command, and drops every sample word and ready indication it
takes, so that nothing but a reset in its inputs lets a register change.
-/

theorem mem_inbox_of_nextInput {s : State} {i : Input} {rest : List Input} (h : nextInput s = some (i, rest)) : i ∈ s.inbox := by
  unfold nextInput at h
  split at h
  · obtain ⟨_, before, after, _, hbox, _⟩ := firstNonCommand_some h
    simp [hbox]
  · split at h
    case h_1 => cases h
    case h_2 hbox =>
      cases h
      simp [hbox]

/-- R311: what a step of a halted CORE can take is a sample word or a ready indication, and either is dropped (log 5). -/
theorem step_of_halted {s t : State} (hs : s.halted = true) (hbox : ∀ x ∈ s.inbox, isReset x = false) (h : step s = .next t) :
    ∃ rest, t = setInbox rest s := by
  have hrunning : s.halted ≠ false := by simp [hs]
  rcases step_cases h with ⟨_, rfl⟩ | ⟨i, rest, hn, hi⟩
  · exact ⟨t.inbox, rfl⟩
  have hreset : isReset i = false := hbox i (mem_inbox_of_nextInput hn)
  obtain hcommand | hsample | hready | ⟨rfl, _⟩ | ⟨_, _, rfl, _⟩ := hi
  · obtain ⟨_, _, hrun, _⟩ := hcommand
    exact absurd hrun hrunning
  · obtain ⟨_, _, ⟨_, e⟩ | ⟨hrun, _⟩⟩ := hsample
    · exact ⟨rest, e⟩
    · exact absurd hrun hrunning
  · obtain ⟨_, _, e | ⟨_, _, hrun, _⟩⟩ := hready
    · exact ⟨rest, e⟩
    · exact absurd hrun hrunning
  · cases hreset
  · cases hreset

/-- Settles O11: the step has a next state, which differs in the inputs alone. -/
theorem haltedCoreIgnoresAllButReset : Obligations.HaltedCoreIgnoresAllButReset := by
  intro s hs hbox
  obtain ⟨t, h⟩ := step_next s
  obtain ⟨rest, rfl⟩ := step_of_halted hs hbox h
  exact ⟨rest, h⟩

/-- R172: a product of two u32 values, shifted right by 16. -/
theorem ticks_lt (d p : Word) : ticks d p < 2 ^ 48 := by
  have hprod : d.toNat * p.toNat < 2 ^ 32 * 2 ^ 32 := Nat.mul_lt_mul'' d.isLt p.isLt
  exact Nat.div_lt_of_lt_mul (hprod.trans_eq (by decide))

/-- Settles O12: fatal entry is the statement's halted state, and the 49 bits of its record hold every tick count. -/
theorem fatalEntryRecordsTheOverflow : Obligations.FatalEntryRecordsTheOverflow := by
  intro c t u d p s
  have hfits : ticks d p < 2 ^ 49 := (ticks_lt d p).trans (by decide)
  refine ⟨rfl, ?_⟩
  rw [raiseFatal_fault]
  exact (BitVec.toNat_ofNat ..).trans (Nat.mod_eq_of_lt hfits)

end Sys2Proof.Machine

namespace Sys2Proof.Machine

/-!
Refused commands (R309). ILLEGAL and REJECTED are responses of their own, given before anything is written; whatever goes past the
checks ends in OK or CONFIG_FAULT, or gives no response yet.
-/

/-- From `s` to `t` no command has been refused: a response that was given is OK or CONFIG_FAULT (R79). -/
abbrev NotRefused (s t : State) : Prop :=
  ∀ st d, t.responses = s.responses ++ [⟨st, d⟩] → st = .ok ∨ st = .configFault

theorem notRefused_of_silent {s t : State} (h : Silent s t) : NotRefused s t := by
  simp [NotRefused, h.responses]

theorem notRefused_respond {st : Status} (hst : st = .ok ∨ st = .configFault) {s u : State} (hr : u.responses = s.responses)
    (d : Word) : NotRefused s (respond st d u) := by
  simp [NotRefused, hr, hst]

/-- R105: a teardown gives its response at once, or owes it. -/
theorem notRefused_disableAndRespond {st : Status} (hst : st = .ok ∨ st = .configFault) (c : Channel) {s u : State}
    (hr : u.responses = s.responses) : NotRefused s (disableAndRespond c st u) := by
  cases h : (u.chan (otherChannel c)).active with
  | true => simp [NotRefused, disableAndRespond_of_active c st u h, hr]
  | false =>
    rw [disableAndRespond_of_inactive c st u h]
    exact notRefused_respond hst (by simpa using hr) 0#32

/-- CONFIGURE's ends respond OK or CONFIG_FAULT, and Fatal gives no response (R107, R310). -/
theorem notRefused_configureAndSetMode (c : Channel) (m : Mode) {s u : State} (hr : u.responses = s.responses) :
    NotRefused s (configureAndSetMode c m u) := by
  obtain ⟨v, hv, e | e | ⟨_, _, _, e⟩⟩ := configureAndSetMode_cases c m u <;> rw [e]
  all_goals have hvr : v.responses = s.responses := hv.silent.responses.trans hr
  · exact notRefused_respond (.inl rfl) (by simpa using hvr) 0#32
  · exact notRefused_disableAndRespond (.inr rfl) c hvr
  · simp [NotRefused, hvr]

theorem execSetMode_rejects_or_notRefused {c : Channel} {m : Mode} {s t : State} (h : execSetMode c m s = .next t) :
    t = respond .rejected 0#32 s ∨ NotRefused s t := by
  rcases execSetMode_cases c m s with ⟨_, e⟩ | ⟨_, e⟩ | ⟨_, _, ⟨_, e⟩ | ⟨_, e⟩⟩ <;> cases e.symm.trans h
  · exact .inl rfl
  · exact .inr (notRefused_disableAndRespond (.inl rfl) c rfl)
  · exact .inr (notRefused_of_silent (silent_enable ..))
  · exact .inr (notRefused_configureAndSetMode c m rfl)

theorem execSetDuty_rejects_or_notRefused {c : Channel} {d1 d2 : Word} {s t : State} (h : execSetDuty c d1 d2 s = .next t) :
    t = respond .rejected 0#32 s ∨ NotRefused s t := by
  rcases execSetDuty_cases c d1 d2 s with e | ⟨_, _, ⟨_, e⟩ | ⟨_, e⟩⟩ <;> cases e.symm.trans h
  · exact .inl rfl
  · exact .inr (notRefused_respond (.inl rfl) (by simp) _)
  · rw [reconfigured_eq_configureAndSetMode]
    exact .inr (notRefused_configureAndSetMode c _ (by simp))

/-- Every instruction only responds, with data 0, or is not refused. -/
theorem exec_responds_or_notRefused {i : Instr} {s t : State} (h : exec i s = .next t) :
    (∃ st, t = respond st 0#32 s) ∨ NotRefused s t := by
  cases i with
  | setMode c m => exact (execSetMode_rejects_or_notRefused h).imp_left fun e => ⟨.rejected, e⟩
  | setDuty c d1 d2 => exact (execSetDuty_rejects_or_notRefused h).imp_left fun e => ⟨.rejected, e⟩
  | setVsetpoint c v | setIsetpoint c v =>
    cases h
    split
    · exact .inl ⟨.rejected, rfl⟩
    · exact .inr (notRefused_respond (.inl rfl) (by simp) _)
  | setPeriod c p =>
    by_cases hm : (s.chan c).mode = .disabled
    · cases (exec_setPeriod_of_disabled p hm).symm.trans h
      exact .inr (notRefused_respond (.inl rfl) (by simp) _)
    · cases (exec_setPeriod_of_not_disabled p hm).symm.trans h
      exact .inl ⟨.rejected, rfl⟩
  | setCh2Source src =>
    by_cases hm : s.ch2.mode = .disabled
    · cases (exec_setCh2Source_of_disabled src hm).symm.trans h
      exact .inr (notRefused_respond (.inl rfl) rfl _)
    · cases (exec_setCh2Source_of_not_disabled src hm).symm.trans h
      exact .inl ⟨.rejected, rfl⟩
  | getMode c | getDuty1 c | getDuty2 c | getVsetpoint c | getIsetpoint c | getVsense c | getIsense c | getPeriod c =>
    cases h
    exact .inr (notRefused_respond (.inl rfl) rfl _)
  | sample v1 i1 v2 i2 => exact .inr (notRefused_of_silent (silent_execSample h))
  | reserved _ _ _ =>
    cases h
    exact .inl ⟨.illegal, rfl⟩

/-- Settles O46: a REJECTED or ILLEGAL response tells that the instruction only responded, and which response that was. -/
theorem rejectedAndIllegalChangeNothing : Obligations.RejectedAndIllegalChangeNothing := by
  intro i s t st d h hresp hst
  rcases exec_responds_or_notRefused h with ⟨st', rfl⟩ | hnot
  · obtain ⟨rfl, _⟩ : st' = st ∧ 0#32 = d := by simpa using hresp
    rfl
  · have hok := hnot st d hresp
    rcases hst with rfl | rfl <;> simp at hok

end Sys2Proof.Machine

namespace Sys2Proof.Machine

/-!
Periods that never overflow (R172, R349). A duty of at most 0x10000 makes at most as many ticks as its period has, so where a channel's
duties are sound and its period is at most 0xFFFF, neither CONFIGURE nor UPDATE_DUTY raises Fatal, and nothing else halts CORE.
-/

/-- No tick count of the channel overflows: its duties are in order, and its period fits. -/
structure TicksFit (ch : Chan) : Prop where
  duties : DutiesOrdered ch
  period : ch.period.toNat ≤ 0xFFFF

theorem ticksFit_of_coreInv {s : State} (h : CoreInv s) (hp : PeriodsFit s) (c : Channel) : TicksFit (s.chan c) where
  duties := h.dutiesOrdered c
  period := ((forall_chan_iff c (·.period.toNat ≤ 0xFFFF) s).mp hp).1

/-- R170: neither duty makes more than 0xFFFF ticks. -/
theorem TicksFit.ticks_le {ch : Chan} (h : TicksFit ch) {d : Word} (hd : d = ch.duty1 ∨ d = ch.duty2) :
    ticks d ch.period ≤ 0xFFFF := by
  obtain ⟨⟨hord, hfull⟩, hp⟩ := h
  have hduty : d.toNat ≤ 0x10000 := by
    rcases hd with rfl | rfl
    · exact hfull
    · exact hord.trans hfull
  have hprod : d.toNat * ch.period.toNat ≤ 0x10000 * 0xFFFF := Nat.mul_le_mul hduty hp
  rw [ticks]
  omega

/-! ### The procedures that check tick counts -/

theorem configure_of_ticksFit {c : Channel} {s : State} (h : TicksFit (s.chan c)) :
    ∃ t, OutputsAndAcks s t ∧ (configure c s = .ok t ∨ configure c s = .fail t) := by
  rcases configure_cases c s with ⟨_, _, _, hover, hd, _⟩ | hends
  · exact absurd (h.ticks_le hd) (not_le.mpr hover)
  · exact hends

theorem updateDuty_of_ticksFit {c : Channel} {s : State} (h : TicksFit (s.chan c)) : ∃ ops, updateDuty c s = .on (emitAll ops s) := by
  rcases updateDuty_cases c s with ⟨ops, _, _, e⟩ | ⟨_, _, _, _, _, _, hover, hd, _⟩
  · exact ⟨ops, e⟩
  · exact absurd (h.ticks_le hd) (not_le.mpr hover)

/-! ### HALT after each part of a transaction -/

theorem OutputsAndAcks.halted_eq {s t : State} (h : OutputsAndAcks s t) : t.halted = s.halted := by
  obtain ⟨_, _, _, rfl⟩ := h
  rfl

@[simp] theorem enable_halted (c : Channel) (k : Resumption) (rest : State → State) (s : State) :
    (enable c k rest s).halted = s.halted := by
  simp [enable_eq]

@[simp] theorem disableAndRespond_halted (c : Channel) (st : Status) (s : State) : (disableAndRespond c st s).halted = s.halted := by
  cases h : (s.chan (otherChannel c)).active with
  | true => simp [disableAndRespond_of_active c st s h]
  | false => simp [disableAndRespond_of_inactive c st s h]

theorem configureAndSetMode_halted {c : Channel} {s : State} (h : TicksFit (s.chan c)) (m : Mode) :
    (configureAndSetMode c m s).halted = s.halted := by
  obtain ⟨t, ht, e | e⟩ := configure_of_ticksFit h
  · simp [configureAndSetMode, e, ht.halted_eq]
  · simp [configureAndSetMode, e, ht.halted_eq]

theorem continueHeld_halted {s : State} (h : ∀ c, TicksFit (s.chan c)) (k : Held) : (continueHeld k s).halted = s.halted := by
  obtain ⟨x, k⟩ := k
  cases x with
  | osc => rfl
  | adc =>
    cases k with
    | configure c m =>
      have hfit : TicksFit ((recomputeAfterAdc s).chan c) := by
        rw [chan_recomputeAfterAdc]
        exact h c
      exact configureAndSetMode_halted hfit m
    | respond st => rfl

/-! ### SAMPLE -/

/-- FEEDBACK's clamped duties fit as the ones before it did, so its UPDATE_DUTY goes on (R147, R148). -/
theorem feedback_of_ticksFit {c : Channel} {s : State} (h : TicksFit (s.chan c)) :
    ∃ t, feedback c s = .on t ∧ t.halted = s.halted := by
  rcases feedback_cases c s with ⟨_, e⟩ | ⟨w, hw, e⟩
  · exact ⟨s, e, rfl⟩
  have hord : w.2 ≤ w.1 := regulate_ordered _ w hw h.duties.1
  have hfit : TicksFit ((modChan c (Chan.setDuties (clampDuty w.1) (clampDuty w.2)) s).chan c) := by
    rw [modChan_chan_same]
    exact ⟨dutiesOrdered_clampDuty hord _, h.period⟩
  obtain ⟨ops, e'⟩ := updateDuty_of_ticksFit hfit
  exact ⟨_, e.trans e', by simp⟩

theorem execSample_halted {v1 i1 v2 i2 : Codepoint} {s t : State} (h : ∀ c, TicksFit (s.chan c))
    (e : execSample v1 i1 v2 i2 s = .next t) : t.halted = s.halted := by
  have hsenses (c : Channel) : TicksFit ((writeSenses v1 i1 v2 i2 s).chan c) := by
    cases c with
    | ch1 => exact ⟨(h .ch1).duties, (h .ch1).period⟩
    | ch2 => exact ⟨(h .ch2).duties, (h .ch2).period⟩
  obtain ⟨u, hu, hhalt⟩ := feedback_of_ticksFit (hsenses .ch1)
  have hch2 : u.ch2 = (writeSenses v1 i1 v2 i2 s).ch2 := by simpa [hu] using ch2_feedback_ch1 (writeSenses v1 i1 v2 i2 s)
  have hfit : TicksFit (u.chan .ch2) := by
    rw [chan_ch2, hch2]
    exact hsenses .ch2
  obtain ⟨v, hv, hhalt'⟩ := feedback_of_ticksFit hfit
  cases e
  rw [hu, Flow.on_andThen, hv]
  exact hhalt'.trans hhalt

/-! ### Every instruction, every step -/

theorem execSetMode_halted {c : Channel} {m : Mode} {s t : State} (h : TicksFit (s.chan c)) (e : execSetMode c m s = .next t) :
    t.halted = s.halted := by
  rcases execSetMode_cases c m s with ⟨_, e'⟩ | ⟨_, e'⟩ | ⟨_, _, ⟨_, e'⟩ | ⟨_, e'⟩⟩ <;> cases e'.symm.trans e
  · rfl
  · exact disableAndRespond_halted ..
  · exact enable_halted ..
  · exact configureAndSetMode_halted h m

theorem execSetDuty_halted {c : Channel} {d1 d2 : Word} {s t : State} (h : TicksFit (s.chan c))
    (e : execSetDuty c d1 d2 s = .next t) : t.halted = s.halted := by
  rcases execSetDuty_cases c d1 d2 s with e' | ⟨hle, hfull, ⟨_, e'⟩ | ⟨_, e'⟩⟩ <;> cases e'.symm.trans e
  · rfl
  · simp
  · have hfit : TicksFit ((modChan c (Chan.setDuties d1 d2) s).chan c) := by
      rw [modChan_chan_same]
      exact ⟨⟨hle, hfull⟩, h.period⟩
    rw [reconfigured_eq_configureAndSetMode, configureAndSetMode_halted hfit, modChan_halted]

theorem exec_halted {i : Instr} {s t : State} (h : ∀ c, TicksFit (s.chan c)) (e : exec i s = .next t) : t.halted = s.halted := by
  cases i with
  | setMode c m => exact execSetMode_halted (h c) e
  | setDuty c d1 d2 => exact execSetDuty_halted (h c) e
  | sample v1 i1 v2 i2 => exact execSample_halted h e
  | setVsetpoint c v | setIsetpoint c v | setPeriod c p =>
    cases e
    split <;> simp
  | setCh2Source src =>
    cases e
    split <;> rfl
  | getMode c | getDuty1 c | getDuty2 c | getVsetpoint c | getIsetpoint c | getVsense c | getIsense c | getPeriod c
  | reserved _ _ _ =>
    cases e
    rfl

theorem ResetInto.running {s t : State} {box : List Input} (h : ResetInto s box t) : Running t := by
  obtain ⟨_, _, _, rfl⟩ := h
  rfl

/-- Settles O44: each input a step can take leaves HALT as it was, or is a reset. -/
theorem periodsUpTo0xFFFFNeverHalt : Obligations.PeriodsUpTo0xFFFFNeverHalt := by
  intro s hinv hp hr
  obtain ⟨t, h⟩ := step_next s
  refine ⟨t, h, ?_⟩
  rcases step_cases h with ⟨_, rfl⟩ | ⟨_, rest, _, hi⟩
  · exact hr
  have hfit : ∀ c, TicksFit ((setInbox rest s).chan c) := ticksFit_of_coreInv (coreInv_setInbox hinv rest) hp
  obtain hcommand | hsample | hready | hreset | hduring := hi
  · obtain ⟨_, _, _, _, e⟩ := hcommand
    exact (exec_halted hfit e).trans hr
  · obtain ⟨_, _, ⟨_, rfl⟩ | ⟨_, e⟩⟩ := hsample
    · exact hr
    · exact (exec_halted hfit e).trans hr
  · obtain ⟨_, _, rfl | ⟨_, _, _, rfl⟩⟩ := hready
    · exact hr
    · exact (continueHeld_halted hfit _).trans hr
  · obtain ⟨_, rfl⟩ := hreset
    exact resetEntry_halted _
  · obtain ⟨_, _, _, hreset, _⟩ := hduring
    exact hreset.running

end Sys2Proof.Machine

namespace Sys2Proof.Machine

/-!
Reset (R340, R341): between transactions, and during one, where the first of the operations it would have emitted stay. The
transaction the reset cuts is the step CORE would take without it, so its operations and the inputs it leaves are read off that step.
-/

/-! ### Taking the reset -/

/-- The first input that is no command is taken from behind commands that cannot be accepted, or from the head (R51, R52, R311). -/
theorem nextInput_of_noncommand {s : State} {i : Input} {before rest : List Input} (hbox : s.inbox = before ++ i :: rest)
    (hi : ∀ w, i ≠ .command w) (hb : ∀ x ∈ before, isCommand x = true)
    (hwait : before = [] ∨ s.held.isSome = true ∨ s.halted = true) : nextInput s = some (i, before ++ rest) := by
  rcases hwait with rfl | hwait
  · exact nextInput_of_noncommand_head hbox hi
  · rw [nextInput_of_heldOrHalted hwait, hbox]
    exact firstNonCommand_append before rest i (fun x hx => (isCommand_iff x).mp (hb x hx)) hi

/-- Settles O13: the reset is the input taken, and the cleared record, HALT and hold are those of a construction. -/
theorem resetInputRestoresTheResetState : Obligations.ResetInputRestoresTheResetState := by
  intro s before rest hbox hb hwait
  rw [step_of_nextInput (nextInput_of_noncommand hbox (by simp) hb hwait)]
  rfl

/-- Settles O15: a constructed CORE accepts inputs, and with both channels Disabled a SAMPLE only writes the senses. -/
theorem resetStateOfEveryConstruction : Obligations.ResetStateOfEveryConstruction := by
  intro p w rest
  refine ⟨fun c => ?_, ⟨rfl, rfl⟩, rfl, rfl, ⟨rfl, rfl, rfl, rfl⟩, ?_⟩
  · cases c <;> exact ⟨rfl, rfl, rfl, rfl, rfl, rfl, rfl, rfl⟩
  · rw [stepRunsTheDeliveredSample _ w [] rest rfl rfl nofun (.inl rfl)]
    exact sampleInIdleModesOnlyWritesSenses _ _ _ _ _ (.inl rfl) (.inl rfl)

/-! ### Reset during a transaction -/

theorem drawsAck_eq_isCfgOutput : drawsAck = isCfgOutput := by
  funext op
  cases op <;> rfl

theorem serve_eq_serveInput {i : Input} (hi : ∀ n, i ≠ .resetDuring n) (s : State) : serve i s = serveInput i s := by
  cases i with
  | resetDuring n => exact absurd rfl (hi n)
  | command _ | sample _ | ready _ | reset => rfl

/-- Serving an input takes no further one. -/
theorem serveInput_inbox {i : Input} {s t : State} (h : serveInput i s = .next t) : t.inbox = s.inbox := by
  cases i with
  | command w => exact (transacts_exec h).inbox_eq
  | sample w =>
    simp only [serveInput, serveSample] at h
    split at h
    · cases h
      rfl
    · exact (transacts_exec h).inbox_eq
  | ready x =>
    simp only [serveInput, serveReady] at h
    split at h
    · split at h <;> cases h
      · exact (transacts_continueHeld ..).inbox_eq
      · rfl
    · cases h
      rfl
  | reset | resetDuring n =>
    cases h
    rfl

theorem serveResetDuring_of_nextInput {n : Nat} {s t : State} {i : Input} {rest : List Input} (hn : nextInput s = some (i, rest))
    (h : serveInput i (setInbox rest s) = .next t) : serveResetDuring n s = .next (cutShort n (setInbox rest s) t) := by
  simp only [serveResetDuring, hn, h]

/-- A reset that cuts a reset is that reset (log 2). -/
theorem cutShort_resetEntry (n : Nat) (s : State) : cutShort n s (resetEntry s) = resetEntry s := by
  simp [cutShort, emitAll, drawAcks, resetEntry]

/-- Reset during the next input's transaction, that input being no such reset itself: with `t` the state a step would have led to and
`ops` what it would have emitted, the first `n` of `ops` stay, and the inputs are those of `t`. With nothing to take, `ops` is empty. -/
theorem serveResetDuring_eq {n : Nat} {s t : State} {ops : List DriverOp} (hi : ∀ m rest, nextInput s ≠ some (.resetDuring m, rest))
    (h : step s = .next t) (hops : t.driverOps = s.driverOps ++ ops) :
    let k := (ops.take n).countP isCfgOutput
    serveResetDuring n s = .next { State.construct s.params with
      responses := s.responses, driverOps := s.driverOps ++ ops.take n, inbox := t.inbox,
      acks := s.acks.drop k, ackDraws := s.ackDraws + (k - s.acks.length) } := by
  cases hn : nextInput s with
  | none =>
    simp only [step, hn] at h
    cases h
    have hnil : ops = [] := by simpa using hops
    subst hnil
    simp [serveResetDuring, hn, resetEntry]
  | some taken =>
    obtain ⟨i, rest⟩ := taken
    have hne : ∀ m, i ≠ .resetDuring m := by
      rintro m rfl
      exact hi m rest hn
    rw [step_of_nextInput hn, serve_eq_serveInput hne] at h
    have hcut : t.driverOps.drop (setInbox rest s).driverOps.length = ops := by simp [hops]
    rw [serveResetDuring_of_nextInput hn h, cutShort_eq, hcut, drawsAck_eq_isCfgOutput, serveInput_inbox h]
    rfl

/-- Settles O14: the operations that stay are the first `n` of those the step without the reset emits. -/
theorem resetDuringATransactionLeavesAPrefixOfItsTrace : Obligations.ResetDuringATransactionLeavesAPrefixOfItsTrace := by
  intro s n box hbox
  have hstep : step s = serveResetDuring n (setInbox box s) :=
    step_of_nextInput (nextInput_of_noncommand_head hbox (by simp))
  refine ⟨fun hi => ?_, fun m rest hn => ?_⟩
  · obtain ⟨t, ht⟩ := step_next (setInbox box s)
    obtain ⟨⟨ops, hops⟩, _⟩ := outputsOnlyGrowByAtMostOneResponse (setInbox box s) t ht
    have hlen : (ops.take n).length = n ∨ ((ops.take n).length ≤ n ∧ ops.drop n = []) := by
      rw [List.length_take, List.drop_eq_nil_iff]
      omega
    refine ⟨t, ops.take n, ops.drop n, ht, ?_, hlen, ?_⟩
    · rw [List.append_assoc, List.take_append_drop]
      exact hops
    · rw [hstep]
      exact serveResetDuring_eq hi ht hops
  · rw [hstep, serveResetDuring_of_nextInput (s := setInbox box s) hn rfl, cutShort_resetEntry]
    rfl

end Sys2Proof.Machine
